-- ==== Sys2Proof/Word.lean ====
section
/-! DEFINITION. The word types of the QC8 and their plainest arithmetic. -/

namespace Sys2Proof

/-- One byte. -/
abbrev Byte := BitVec 8
/-- A host address. Host addresses are 48 bits; next fields, ORIGIN and the mirror's address fields are
64-bit fields (R180, 11.5), so every host address is held in 64 bits and judged against 2^48 where the spec
says so (log 9). -/
abbrev Addr := BitVec 64
/-- A 32-bit register or field. -/
abbrev Word32 := BitVec 32
/-- A coordinator or member tag: 16 bits, nonzero when valid. -/
abbrev NodeTag := BitVec 16
/-- A group's 32-bit write number (no wrap). -/
abbrev Seq := BitVec 32
/-- A group's 16-bit generation number; 0 means undefined. -/
abbrev Epoch := BitVec 16
/-- Link 0 to 7; member n is on link n. -/
abbrev LinkId := Fin 8
/-- Group 0 to 15. -/
abbrev GroupId := Fin 16
/-- Window slot 0 to 31. -/
abbrev SlotId := Fin 32
/-- Payload block 0 to 255. -/
abbrev BlockId := Fin 256
/-- A set of links, as the mask of R180: bit n is set when link n is in the set. -/
abbrev MemberSet := BitVec 8
/-- A set of groups, as the mask of R180. -/
abbrev GroupSet := BitVec 16

/-- The eight links in ascending order. -/
def allLinks : List LinkId := [0, 1, 2, 3, 4, 5, 6, 7]
/-- The sixteen groups in ascending order. -/
def allGroups : List GroupId := [0, 1, 2, 3, 4, 5, 6, 7, 8, 9, 10, 11, 12, 13, 14, 15]
/-- The thirty-two slots in ascending order. -/
def allSlots : List SlotId :=
  [0, 1, 2, 3, 4, 5, 6, 7, 8, 9, 10, 11, 12, 13, 14, 15,
   16, 17, 18, 19, 20, 21, 22, 23, 24, 25, 26, 27, 28, 29, 30, 31]

end Sys2Proof
end

