-- ==== Sys2Proof/Config.lean ====
section
/-! DEFINITION. The numbers every chapter uses (00_scope.md "Numbers"). The spec leaves no result value open,
so there is no free value here. -/

namespace Sys2Proof.Config

/-- The bound of host addresses: the system port refuses a request that reaches it (R101). -/
def addressLimit : Nat := 2 ^ 48
/-- Record alignment and length in bytes. -/
def recordBytes : Nat := 128
/-- Bytes of one payload block (R48). -/
def blockBytes : Nat := 256
/-- Blocks of the payload store (R48). -/
def blocks : Nat := 256
/-- Store words of 8 bytes in one block (R48). -/
def blockWords : Nat := 32
/-- Largest COMMIT payload (R77). -/
def maxPayload : Nat := 4096
/-- Largest value of Pending Posts (R82). -/
def maxPosts : Nat := 65535
/-- Places of the report queue (R95). -/
def reportPlaces : Nat := 64
/-- Re-reads of one link wait (R90). -/
def maxReReads : Nat := 16
/-- The link-wait and report-retry time, in microseconds (R90, R97). -/
def retryMicros : Nat := 8
/-- The probe limit (R117). -/
def probeLimit : Nat := 3
/-- READMIT and NOTE reply timeout, in probe intervals (R137, R149). -/
def replyIntervals : Nat := 4
/-- Clean acknowledgements that make a SUSPECT member ACTIVE (R144). -/
def cleanStreak : Nat := 8
/-- Largest window W a member may advertise (R107, R112). -/
def maxWindow : Nat := 32
/-- Probe interval after power-on and port reset, in microseconds (R71). -/
def resetProbeInterval : Nat := 1000
/-- Entries of a READMIT or BARRIER result area (R76, R78). -/
def maxResultEntries : Nat := 11
/-- The protocol revision (R107). -/
def protocolRevision : Nat := 1
/-- "None applied", and the sequence that is never assigned (R11, R76). -/
def noneApplied : Seq := 0xFFFFFFFF
/-- The mirror's family code and device revision (11.4). -/
def familyCode : BitVec 16 := 0x5C08
/-- Device revision 1 (11.4). -/
def deviceRevision : Byte := 1

end Sys2Proof.Config
end

