-- ==== Sys2Proof/Syntax.lean ====
section
/-! DEFINITION. The commands of the QC8: one constructor of `Instr` for each row of spec/opcode_table.json, with
the row's operands, and the data they carry. -/

namespace Sys2Proof

/-- Fence causes (R142). -/
inductive FenceCause where
  | lost | full | staleEpoch | linkDown | deadline | poison | epochLost | admin | reset
  deriving DecidableEq, Repr

/-- Completion modes (R1, R22). -/
inductive CompletionMode where
  | quorum | all
  deriving DecidableEq, Repr

/-- Why the group table refuses an admission (R11). -/
inductive AdmissionRefusal where
  | noQuorum | seqExhausted
  deriving DecidableEq, Repr

/-- The two NACK reasons that are reported to the window and not retried (R131). -/
inductive NackFailure where
  | full | staleEpoch
  deriving DecidableEq, Repr

/-- What the chain reader reads of an order record: the six header fields (R63) and the 64 bytes of the parameter
area (11.2). -/
structure Record where
  state : Byte
  kind : Byte
  flags : Byte
  outcome : Byte
  tag : BitVec 32
  next : Addr
  params : List Byte
  deriving DecidableEq, Repr

/-- A frame of the Vemtara Replica Link Protocol (R103) that has a right length and frame check; its body length is
the length of `body`. -/
structure Frame where
  kind : BitVec 4
  flags : BitVec 4
  group : Byte
  senderTag : NodeTag
  epoch : Epoch
  sequence : BitVec 32
  param : BitVec 32
  body : List Byte
  deriving DecidableEq, Repr

/-- The admission data of R11: sequence, epoch, q, effective set, order deadline (milliseconds), default mode. -/
structure AdmissionData where
  seq : Seq
  epoch : Epoch
  quorum : Nat
  effective : MemberSet
  orderDeadline : Nat
  mode : CompletionMode
  deriving DecidableEq, Repr

/-- One entry of a readmit offer (R9, R149). -/
structure OfferEntry where
  group : GroupId
  epoch : Epoch
  next : Seq
  atBase : Bool
  deriving DecidableEq, Repr

/-- The commands: one constructor per row of the table, in the table's order. -/
inductive Instr where
  /-- RSTN asserted (R176). -/
  | powerOnReset
  /-- The endpoint's function reset (R176). -/
  | portReset
  /-- A write to ORIGIN_LO (R178). -/
  | originLo (word : Word32)
  /-- A write to ORIGIN_HI (R178). -/
  | originHi (word : Word32)
  /-- A write to POST (R82); bits 9 to 0 of the word are the value. -/
  | post (word : Word32)
  /-- START written to RUN (R169). -/
  | start
  /-- QUIESCE written to RUN (R170). -/
  | quiesce
  /-- HALT written to RUN (R173). -/
  | halt
  /-- RESET written to RUN (R175). -/
  | reset
  /-- A RUN write whose command field names no command (R177). -/
  | runInvalidCommand (word : Word32)
  /-- A write to NOTICE (R158). -/
  | notice (word : Word32)
  /-- A write to MASK (R159). -/
  | mask (word : Word32)
  /-- A write of `bytes` bytes at `offset` of the register window that is no whole write of one of the six
  registers (R177). -/
  | registerWrite (offset : Fin 32) (bytes : Nat) (word : Word32)
  /-- The walk starts a fetch (R84). -/
  | fetchStart
  /-- Completion of the anchor's next-field read; `none` is an error completion (R84). -/
  | nextFieldRead (value : Option Addr)
  /-- Completion of a record read: its 128 bytes; `none` is an error completion (R86). -/
  | recordRead (bytes : Option (List Byte))
  /-- Completion of the TAKEN write, without error or with one (R88). -/
  | takenWrite (ok : Bool)
  /-- Expiry of the 8 us link-wait timer (R90). -/
  | linkWaitExpiry
  /-- Completion of a link-wait re-read: 8 bytes of a next field or the 128 of a record; `none` is an error
  completion (R90). -/
  | reRead (bytes : Option (List Byte))
  /-- A claimed NOP at its dispatch (R69). -/
  | nop (order : Addr) (rec : Record)
  /-- A claimed SETUP at its dispatch (R70, R71). -/
  | setup (order : Addr) (rec : Record)
  /-- A claimed GROUP_SET at its dispatch (R3 to R5, R72). -/
  | groupSet (order : Addr) (rec : Record)
  /-- A claimed LINK_BIND at its dispatch (R73, R115). -/
  | linkBind (order : Addr) (rec : Record)
  /-- A claimed EXCLUDE at its dispatch (R74, R148). -/
  | exclude (order : Addr) (rec : Record)
  /-- A claimed READMIT at its dispatch (R75, R149). -/
  | readmit (order : Addr) (rec : Record)
  /-- A claimed COMMIT at its dispatch (R20, R77). -/
  | commit (order : Addr) (rec : Record)
  /-- A claimed BARRIER at its dispatch (R78, R92). -/
  | barrier (order : Addr) (rec : Record)
  /-- A claimed NOTE at its dispatch (R79, R137). -/
  | note (order : Addr) (rec : Record)
  /-- Completion of a payload piece read; `none` is an error completion (R54, R57). -/
  | pieceRead (bytes : Option (List Byte))
  /-- The window's admission request at the group table (R11). -/
  | admissionRequest (slot : SlotId) (group : GroupId)
  /-- A granted admission at the window (R22). -/
  | admissionGranted (slot : SlotId) (data : AdmissionData)
  /-- A refused admission at the window (R24). -/
  | admissionRefused (slot : SlotId) (why : AdmissionRefusal)
  /-- A data entry at a link engine, from an opening (R125). -/
  | dataEntry (link : LinkId) (slot : SlotId) (group : GroupId) (seq : Seq)
  /-- A left-queue notice at the window (R23, R126). -/
  | leftQueueNotice (slot : SlotId) (group : GroupId) (seq : Seq) (member : LinkId)
  /-- A frame has finished transmission (R124). -/
  | frameGoneOut (link : LinkId)
  /-- Completion of the store's frame read for a link's build; `upsets` are the store words (0 to 8,191) that the
  read finds disagreeing with their parity and that were not known to (R59, log 7). -/
  | frameRead (link : LinkId) (upsets : List Nat)
  /-- The store's poisoning report at the window (R34, R35). -/
  | poisoningReport (slot : SlotId) (group : GroupId) (seq : Seq)
  /-- Bytes delivered on a link that fail the length or frame check, or arrive on an UNBOUND or DOWN link
  (R104, R105). -/
  | frameDiscarded (link : LinkId) (bytes : List Byte)
  /-- A received HELLO_REPLY (R116). -/
  | helloReply (link : LinkId) (frame : Frame)
  /-- A received ACK (R128). -/
  | ack (link : LinkId) (frame : Frame)
  /-- A received NACK (R129, R131). -/
  | nack (link : LinkId) (frame : Frame)
  /-- A received EPOCH_ACK (R135). -/
  | epochAck (link : LinkId) (frame : Frame)
  /-- A received REJOIN_REPLY (R150). -/
  | rejoinReply (link : LinkId) (frame : Frame)
  /-- A received PROBE_REPLY (R113). -/
  | probeReply (link : LinkId) (frame : Frame)
  /-- A received NOTE_REPLY (R137). -/
  | noteReply (link : LinkId) (frame : Frame)
  /-- The lane layer reports the signal present (R119). -/
  | signalPresent (link : LinkId)
  /-- The lane layer reports the signal absent (R119). -/
  | signalAbsent (link : LinkId)
  /-- Expiry of the HELLO timer (R116). -/
  | helloTimerExpiry (link : LinkId)
  /-- Expiry of the silence timer (R117). -/
  | silenceTimerExpiry (link : LinkId)
  /-- Expiry of the ack timer of the outstanding entry for a group and sequence (R132). -/
  | ackTimerExpiry (link : LinkId) (group : GroupId) (seq : Seq)
  /-- Expiry of the EPOCH timer for a group (R134). -/
  | epochTimerExpiry (link : LinkId) (group : GroupId)
  /-- Expiry of the NOTE timer (R137). -/
  | noteTimerExpiry (link : LinkId)
  /-- Expiry of a READMIT's reply timer (R153). -/
  | replyTimerExpiry (member : LinkId)
  /-- Expiry of a slot's order deadline timer (R38). -/
  | orderDeadlineExpiry (slot : SlotId)
  /-- An ACK report at the window (R28). -/
  | ackReport (slot : SlotId) (group : GroupId) (seq : Seq) (member : LinkId)
  /-- A retry request at the window, with the retry limit the engine read (R29). -/
  | retryRequest (slot : SlotId) (group : GroupId) (seq : Seq) (member : LinkId) (limit : Nat)
  /-- The window's answer at the link engine: RETRY (`true`) or GIVE_UP (R130). -/
  | retryAnswer (link : LinkId) (slot : SlotId) (group : GroupId) (seq : Seq) (retry : Bool)
  /-- A NACK FULL or NACK STALE_EPOCH report at the window (R30). -/
  | nackReport (slot : SlotId) (group : GroupId) (seq : Seq) (member : LinkId) (why : NackFailure)
  /-- A LINK_DOWN report at the window (R31). -/
  | linkDownReport (slot : SlotId) (group : GroupId) (seq : Seq) (member : LinkId)
  /-- A fence's slot marking at the window (R33). -/
  | slotMarking (member : LinkId)
  /-- The chain reader's report write end at the window (R41). -/
  | reportWriteEnd (slot : SlotId)
  /-- A fence request at the membership unit (R145). -/
  | fenceRequest (member : LinkId) (cause : FenceCause)
  /-- A retry notice at the membership unit (R143). -/
  | retryNotice (member : LinkId)
  /-- A clean-streak notice at the membership unit, clean or unclean (R144). -/
  | cleanStreakNotice (member : LinkId) (clean : Bool)
  /-- A fence's removal request at the group table (R8). -/
  | removalRequest (member : LinkId)
  /-- The end of a READMIT at the group table, with its offer (R10). -/
  | readmitEnding (member : LinkId) (accepted : Bool) (offer : List OfferEntry)
  /-- A close request at a link engine (R133). -/
  | close (link : LinkId) (group : GroupId)
  /-- A release request at a link engine (R133). -/
  | release (link : LinkId) (group : GroupId)
  /-- A purge on fence at a link engine (R138). -/
  | purgeOnFence (link : LinkId)
  /-- The W of an accepted REJOIN at the link engine (R136). -/
  | wHandOver (link : LinkId) (w : Nat)
  /-- The request at a link engine to clear REJOIN-pending and, where asked, to set FENCE-pending (R153). -/
  | fencePendingRequest (link : LinkId) (setFence : Bool)
  /-- A slot release at the chain reader (R91). -/
  | slotRelease
  /-- A block release at the chain reader (R91). -/
  | blockRelease
  /-- A quarantine notice at the chain reader (R91). -/
  | quarantineNotice
  /-- The clearing of frozen flags, at the chain reader (R91). -/
  | frozenFlagsCleared
  /-- A BARRIER re-evaluation at the chain reader (R93). -/
  | barrierReEvaluation
  /-- Completion without error of a report's result-area write (R96). -/
  | resultAreaWrite
  /-- Completion without error of a report's outcome write (R96). -/
  | outcomeWrite
  /-- Completion without error of a report's DONE write (R96). -/
  | doneWrite
  /-- Completion with an error of any of a report's three writes (R97). -/
  | reportWriteFault
  /-- Expiry of the report retry timer (R97). -/
  | reportRetryExpiry
  /-- The window-empty report at run control (R172). -/
  | windowEmpty
  /-- The chain reader's quiet report at run control (R172). -/
  | chainQuiet
  /-- A mirror write begins (R162). -/
  | mirrorWriteBegin
  /-- Completion without error of a mirror write's leading write (R163). -/
  | mirrorLeadingWrite
  /-- Completion without error of a mirror write's body write (R163). -/
  | mirrorBodyWrite
  /-- Completion without error of a mirror write's trailing write (R163). -/
  | mirrorTrailingWrite
  /-- Completion with an error of any of a mirror write's three writes (R164). -/
  | mirrorWriteFault
  /-- Expiry of the mirror interval timer (R162). -/
  | intervalTimerExpiry
  /-- A frame, passed by its frame check, of a kind the part does not take (R106). -/
  | frameOfUntakenKind (link : LinkId) (frame : Frame)
  deriving DecidableEq, Repr

end Sys2Proof
end

