-- ==== Sys2Proof/Decode.lean ====
section
/-! DEFINITION. The table of the QC8 gives its rows no bits (they are events, not words), so no word spells a command
(log 25). -/

namespace Sys2Proof

/-- The command a word spells by the table's bits: none, since no row gives bits. -/
def decodeTableWord (_nbits _w : Nat) : Option Instr := none

end Sys2Proof
end

