-- ==== Sys2Proof/Machine/State.lean ====
section
/-! DEFINITION. The state of the QC8 as plain data, block by block as the spec's chapters give it, and its value
after a power-on reset. Timers are held as absolute expiry times in microseconds, `none` while stopped (log 2). -/

namespace Sys2Proof.Machine

/-! ### Codes and small states -/

/-- Outcome codes (R80, 11.2). -/
inductive OrderOutcome where
  | ok | partialOk | quorumLost | deadline | noQuorum | seqExhausted | hostReadFault | storeFault | storeShort
  | badKind | badField | groupUndefined | noSetup | groupBusy | linkBusy | linkNotUp | memberBusy | notFenced
  | noReply | memberBehind | memberAhead | memberRefused
  deriving DecidableEq, Repr

/-- Member results of a slot (R19, R32). -/
inductive MemberResult where
  | none | pending | acked | fenced | lost | full | staleEpoch | linkDown | deadline | poison
  deriving DecidableEq, Repr

/-- Run states (R168). -/
inductive RunState where
  | stopped | running | quiescing | quiesced | halted
  deriving DecidableEq, Repr

/-- Chain states (R81). -/
inductive ChainState where
  | stopped | idle | fetching | linkWait | held | faulted
  deriving DecidableEq, Repr

/-- Held reasons (R81). -/
inductive HeldReason where
  | none | slot | store | frozen | barrier
  deriving DecidableEq, Repr

/-- The states of a slot that is not FREE (R19). -/
inductive SlotState where
  | loading | opened | reporting | trailing
  deriving DecidableEq, Repr

/-- The state of a defined group (R1, R2). -/
inductive GroupState where
  | live | stalled
  deriving DecidableEq, Repr

/-- Member health (R142). -/
inductive Health where
  | fenced | active | suspect
  deriving DecidableEq, Repr

/-- Link states (R114). -/
inductive LinkState where
  | unbound | down | training | up
  deriving DecidableEq, Repr

/-- Mirror states (R162). -/
inductive MirrorState where
  | off | on | broken
  deriving DecidableEq, Repr

/-! ### System port and run control -/

/-- What a memory request is for. -/
inductive RequestKind where
  | resultArea | outcome | done
  | mirrorLeading | mirrorBody | mirrorTrailing
  | nextField | record | reRead | takenWrite
  | piece
  deriving DecidableEq, Repr

/-- The four classes of the arbiter (R100). -/
inductive RequestClass where
  | report | mirror | walk | payload
  deriving DecidableEq, Repr

/-- A memory request: `data` is what a write carries and is empty for a read. `abandoned` says that its requester has
given it up and will discard its completion (R80, R89, R100, R165, R182). -/
structure MemRequest where
  kind : RequestKind
  addr : Addr
  len : Nat
  data : List Byte
  abandoned : Bool
  deriving DecidableEq, Repr

/-- The system port with run control: ORIGIN, the run state, the interrupt latch, the arbiter's waiting requests (at
most one per class) and the one in flight (R100, R158, R168, R178). `interruptsSent` counts the messages sent and is
the model's own observation (log 17). -/
structure SystemPort where
  originLo : Word32
  originHi : Word32
  run : RunState
  latch : Bool
  interruptsSent : Nat
  waitReport : Option MemRequest
  waitMirror : Option MemRequest
  waitWalk : Option MemRequest
  waitPayload : Option MemRequest
  current : Option MemRequest
  deriving DecidableEq, Repr

/-! ### Chain reader -/

/-- The result fields of a report, fixed when it is queued (R68, R94, 11.2). -/
inductive ResultArea where
  | zero
  | commit (seq : Seq) (epoch : Epoch) (snapshot : MemberSet) (results : Vector MemberResult 8) (settle : Seq)
  | groupSet (epoch : Epoch)
  | readmit (groups : GroupSet) (w : Nat) (deciding : Option GroupId) (lastApplied : List Seq)
  | barrier (targets : GroupSet) (marks : List Seq)
  | note (reply : List Byte)
  deriving DecidableEq, Repr

/-- A queued request to write one record's result area, outcome and DONE (R94). -/
structure Report where
  order : Addr
  outcome : OrderOutcome
  result : ResultArea
  slot : Option SlotId
  deriving DecidableEq, Repr

/-- The three writes of a report (R96). -/
inductive ReportStage where
  | resultArea | outcome | done
  deriving DecidableEq, Repr

/-- What the reporter is doing: nothing, one of the head report's writes, or waiting to ask for it again (R97). -/
inductive Reporter where
  | idle
  | writing (stage : ReportStage)
  | retryWait (stage : ReportStage)
  deriving DecidableEq, Repr

/-- What the walk is doing inside its chain state (R84, R86, R88, R90, R91, R171). -/
inductive WalkStep where
  | idle
  | awaitFetch      -- FETCHING, waiting for a report place to start a fetch
  | awaitRefetch    -- FETCHING, waiting for a place to read the held record again
  | awaitReRead     -- LINK_WAIT, waiting for a place for a re-read
  | nextField       -- reading the anchor's next field
  | record          -- reading a record
  | takenWrite      -- writing TAKEN
  | reRead          -- a link-wait re-read
  | dispatching     -- an EXCLUDE dispatched and not yet reported
  deriving DecidableEq, Repr

/-- The way LINK_WAIT was entered (R90). -/
inductive WaitFor where
  | link | post
  deriving DecidableEq, Repr

/-- A held BARRIER (R81, R92): target set, one recorded next sequence per target group in ascending group number,
and the target groups' slots that were LOADING at the claim. -/
structure HeldBarrier where
  order : Addr
  targets : GroupSet
  recorded : List (GroupId × Seq)
  loading : List SlotId
  deriving DecidableEq, Repr

/-- An EXCLUDE whose fence's requests have not all been taken (R66, R148). -/
structure Excluding where
  order : Addr
  member : LinkId
  deriving DecidableEq, Repr

/-- The chain reader (R81), with the working state of its two halves. -/
structure ChainReader where
  state : ChainState
  heldReason : HeldReason
  pendingPosts : Nat
  walkPointer : Addr
  anchor : Bool
  fetchAddr : Option Addr
  fetched : Option Record
  linkWaitCount : Nat
  heldBarrier : Option HeldBarrier
  reports : List Report
  reserved : Nat
  unreported : Addr
  walk : WalkStep
  waitingFor : WaitFor
  linkWaitTimer : Option Nat
  reporter : Reporter
  retryUsed : Bool
  retryTimer : Option Nat
  faultDue : Bool
  excluding : Option Excluding
  deriving DecidableEq, Repr

/-! ### Commit window -/

/-- The slot fields that are absent until admission is granted (R19, R22). -/
structure SlotAdmission where
  seq : Seq
  epoch : Epoch
  quorum : Nat
  snapshot : MemberSet
  mode : CompletionMode
  deadline : Nat
  deriving DecidableEq, Repr

/-- The slot fields that are absent until the report point (R19, R39); the reported flag is that they are present. -/
structure SlotReport where
  outcome : OrderOutcome
  snapshot : Vector MemberResult 8
  settle : Seq
  deriving DecidableEq, Repr

/-- A slot that is not FREE (R19). -/
structure Slot where
  state : SlotState
  order : Addr
  group : GroupId
  waitAll : Bool
  payloadAddr : Addr
  length : Nat
  target : BitVec 64
  blocks : List BlockId
  checkWord : Option (BitVec 32)
  admission : Option SlotAdmission
  results : Vector MemberResult 8
  retries : Vector Nat 8
  firstTry : MemberSet
  queued : MemberSet
  deadlineRunning : Bool
  poisoned : Bool
  report : Option SlotReport
  deriving DecidableEq, Repr

/-! ### Payload store -/

/-- The load in progress of the loader queue's head: the piece being read and the running CRC register (R54, R55). -/
structure Load where
  piece : Nat
  crc : BitVec 32
  deriving DecidableEq, Repr

/-- The payload store (R48, R49, R53, R61). `cells` holds the bytes at 256 × block + offset in canonical form, an
unlisted byte reading 0 (R62). `badWords` lists, in rising order, the 8-byte words whose bytes no longer agree with
their parity value (log 7). -/
structure PayloadStore where
  cells : List Host.Cell
  badWords : List Nat
  free : List BlockId
  quarantine : List BlockId
  loaderQueue : List SlotId
  load : Option Load
  deriving DecidableEq, Repr

/-! ### Group table and membership unit -/

/-- A defined group's record (R1). An UNDEFINED group has none. -/
structure GroupRecord where
  state : GroupState
  defined : MemberSet
  quorum : Nat
  retryLimit : Nat
  ackDeadline : Nat
  orderDeadline : Nat
  mode : CompletionMode
  base : Seq
  next : Seq
  epoch : Epoch
  effective : MemberSet
  settle : Seq
  frozen : Bool
  slotsInUse : Nat
  deriving DecidableEq, Repr

/-- The readmit in flight of a member (R149). -/
structure Readmit where
  order : Addr
  tag : BitVec 32
  offer : List OfferEntry
  sent : Bool
  deriving DecidableEq, Repr

/-- A member record (R142). -/
structure Member where
  health : Health
  streak : Nat
  cause : Option FenceCause
  readmit : Option Readmit
  replyTimer : Option Nat
  deriving DecidableEq, Repr

/-! ### Link engines -/

/-- A data entry (R122). -/
structure DataEntry where
  slot : SlotId
  group : GroupId
  seq : Seq
  retransmission : Bool
  deriving DecidableEq, Repr

/-- An outstanding entry (R122). -/
structure Outstanding where
  slot : SlotId
  group : GroupId
  seq : Seq
  expiry : Nat
  ignored : Bool
  deriving DecidableEq, Repr

/-- The control frames (R124). -/
inductive ControlFrame where
  | hello | probe | fence | rejoin
  | epoch (group : GroupId)
  | note
  deriving DecidableEq, Repr

/-- What is being built for the transmitter (R122). -/
inductive Build where
  | control (frame : ControlFrame)
  | data (entry : DataEntry)
  deriving DecidableEq, Repr

/-- One epoch gate with its EPOCH exchange (R122, R133, R134). -/
structure Gate where
  awaiting : Bool
  epochPending : Bool
  timer : Option Nat
  sends : Nat
  deriving DecidableEq, Repr

/-- The NOTE in flight of a link (R137). -/
structure NoteInFlight where
  order : Addr
  tag : BitVec 32
  message : List Byte
  sent : Bool
  deriving DecidableEq, Repr

/-- A link engine: the link-level fields of R114, the fields of R122 and the frame in transmission (R124). -/
structure LinkEngine where
  state : LinkState
  tag : Option NodeTag
  signal : Bool
  w : Nat
  helloTimer : Option Nat
  silenceTimer : Option Nat
  heard : Bool
  unanswered : Nat
  helloPending : Bool
  probePending : Bool
  fencePending : Bool
  rejoinPending : Bool
  notePending : Bool
  queue : List DataEntry
  build : Option Build
  outstanding : List Outstanding
  credits : Nat
  gates : Vector Gate 16
  note : Option NoteInFlight
  noteTimer : Option Nat
  sending : Option Frame
  deriving DecidableEq, Repr

/-! ### Notice unit -/

/-- The notice unit (R157 to R167), holder of the four setup values (R70). -/
structure NoticeUnit where
  raw : BitVec 12
  mask : BitVec 12
  doneTally : Word32
  mirrorState : MirrorState
  mirrorBase : Addr
  mirrorInterval : Nat
  generation : Word32
  dirty : Bool
  writeInFlight : Bool
  intervalTimer : Option Nat
  coordinatorTag : NodeTag
  probeInterval : Nat
  deriving DecidableEq, Repr

/-! ### The whole part -/

/-- The state of the part. `pending` is the queue of commands, first in, first out. `inFlight` holds the requests and
reports that blocks have sent one another and that have not been taken, oldest first (log 1). `now` is the time in
microseconds that absolute expiry times are measured by (log 2). -/
structure State where
  pending : List Instr
  inFlight : List Instr
  now : Nat
  port : SystemPort
  chain : ChainReader
  window : Vector (Option Slot) 32
  store : PayloadStore
  groups : Vector (Option GroupRecord) 16
  members : Vector Member 8
  links : Vector LinkEngine 8
  notices : NoticeUnit
  deriving DecidableEq, Repr

/-- The faults that stop the part: none. The spec gives every event an effect after which the part goes on; what it
calls faults (CHAIN_FAULT, SYSTEM_FAULT, STORE_FAULT, load faults, BROKEN) are states of the part. -/
inductive Fault where
  deriving DecidableEq, Repr

/-- The refusals. -/
inductive Refusal where
  /-- Raised by `exec`'s arm of a command that has no meaning yet (safe: nothing can be proved of its effect). No arm
  raises it in this model. -/
  | notModelled (mnemonic : String)
  deriving DecidableEq, Repr

/-! ### Reset values -/

/-- A gate OPEN, with no exchange (R122). -/
def Gate.idle : Gate := { awaiting := false, epochPending := false, timer := none, sends := 0 }

/-- A member record after a power-on reset (R142). -/
def Member.reset : Member := { health := .fenced, streak := 0, cause := none, readmit := none, replyTimer := none }

/-- A link engine after a power-on reset, with the signal as the lane layer reports it (R114, R122). A frame in
transmission is dropped, which the spec leaves open (log 37). -/
def LinkEngine.resetWith (signal : Bool) : LinkEngine :=
  { state := .unbound, tag := none, signal := signal, w := 0, helloTimer := none, silenceTimer := none
    heard := false, unanswered := 0, helloPending := false, probePending := false, fencePending := false
    rejoinPending := false, notePending := false, queue := [], build := none, outstanding := [], credits := 0
    gates := Vector.replicate 16 Gate.idle, note := none, noteTimer := none, sending := none }

/-- The chain reader after a power-on reset (R81). -/
def ChainReader.reset : ChainReader :=
  { state := .stopped, heldReason := .none, pendingPosts := 0, walkPointer := 0, anchor := false, fetchAddr := none
    fetched := none, linkWaitCount := 0, heldBarrier := none, reports := [], reserved := 0, unreported := 0
    walk := .idle, waitingFor := .link, linkWaitTimer := none, reporter := .idle, retryUsed := false
    retryTimer := none, faultDue := false, excluding := none }

/-- The free list after any reset: 0 to 255 in ascending order (R62). -/
def allBlocks : List BlockId := (List.range 256).map (Fin.ofNat 256)

/-- The payload store after a power-on reset (R62). -/
def PayloadStore.reset : PayloadStore :=
  { cells := [], badWords := [], free := allBlocks, quarantine := [], loaderQueue := [], load := none }

/-- The notice unit after a power-on reset (R167). -/
def NoticeUnit.reset : NoticeUnit :=
  { raw := 0, mask := 0, doneTally := 0, mirrorState := .off, mirrorBase := 0, mirrorInterval := 0, generation := 0
    dirty := true, writeInFlight := false, intervalTimer := none, coordinatorTag := 0
    probeInterval := Config.resetProbeInterval }

/-- The system port after a power-on reset (R168, R176, R178). -/
def SystemPort.reset : SystemPort :=
  { originLo := 0, originHi := 0, run := .stopped, latch := false, interruptsSent := 0, waitReport := none
    waitMirror := none, waitWalk := none, waitPayload := none, current := none }

/-- The part right after a power-on reset (R176); the lane layer has reported no signal yet (log 19). -/
def State.reset : State :=
  { pending := [], inFlight := [], now := 0, port := SystemPort.reset, chain := ChainReader.reset
    window := Vector.replicate 32 none, store := PayloadStore.reset, groups := Vector.replicate 16 none
    members := Vector.replicate 8 Member.reset, links := Vector.replicate 8 (LinkEngine.resetWith false)
    notices := NoticeUnit.reset }

end Sys2Proof.Machine
end

