-- ==== Sys2Proof/Machine/Flags.lean ====
section
/-! DEFINITION. Flag words and sets: the twelve notices, the masks of links and groups, the counts and derived states
the rules compare. -/

namespace Sys2Proof.Machine

/-! ### Sets of links and groups (R180) -/

/-- Link `m` is in the set. -/
def setHas (set : MemberSet) (m : LinkId) : Bool := set.getLsbD m.val

/-- The set with link `m` added. -/
def setInsert (set : MemberSet) (m : LinkId) : MemberSet := set ||| BitVec.twoPow 8 m.val

/-- The set without link `m`. -/
def setErase (set : MemberSet) (m : LinkId) : MemberSet := set &&& ~~~(BitVec.twoPow 8 m.val)

/-- The number of links in the set. -/
def setCard (set : MemberSet) : Nat := allLinks.countP (setHas set)

/-- The set of the links that satisfy a test. -/
def setOf (p : LinkId → Bool) : MemberSet :=
  allLinks.foldl (fun acc m => if p m then setInsert acc m else acc) 0

/-- Group `g` is in the set. -/
def groupSetHas (set : GroupSet) (g : GroupId) : Bool := set.getLsbD g.val

/-- The mask of a list of groups. -/
def groupSetOf (gs : List GroupId) : GroupSet := gs.foldl (fun acc g => acc ||| BitVec.twoPow 16 g.val) 0

/-- The groups of a set in ascending order. -/
def groupSetList (set : GroupSet) : List GroupId := allGroups.filter (groupSetHas set)

/-! ### Notices (R157, 11.5) -/

/-- The twelve notices. -/
inductive Notice where
  | done | chainFault | runChange | linkChange | memberChange | groupStall | origin | stray | storeFault
  | systemFault | refused | catchUp
  deriving DecidableEq, Repr

/-- The bit a notice takes in the mirror, in NOTICE and in MASK (11.5). -/
def Notice.bit : Notice → Nat
  | .done => 0 | .chainFault => 1 | .runChange => 2 | .linkChange => 3 | .memberChange => 4 | .groupStall => 5
  | .origin => 6 | .stray => 7 | .storeFault => 8 | .systemFault => 9 | .refused => 10 | .catchUp => 11

/-- The mask of one notice. -/
def Notice.flag (n : Notice) : BitVec 12 := BitVec.twoPow 12 n.bit

/-- The active notices: the raw notices less the masked ones (R159). -/
def NoticeUnit.active (n : NoticeUnit) : BitVec 12 := n.raw &&& ~~~n.mask

/-! ### Epochs, group state, results -/

/-- The successor of an epoch: 1 follows 65,535 (R6). -/
def epochSucc (e : Epoch) : Epoch := if e = 0xFFFF then 1 else e + 1

/-- The state a group record derives: LIVE when the effective set holds at least q members (R2). -/
def derivedState (quorum : Nat) (effective : MemberSet) : GroupState :=
  if quorum ≤ setCard effective then .live else .stalled

/-- How many results equal a value (R26's counts). -/
def countResults (results : Vector MemberResult 8) (r : MemberResult) : Nat :=
  allLinks.countP fun m => results[m.val] == r

/-- The acked count of a slot (R26). -/
def Slot.ackedCount (s : Slot) : Nat := countResults s.results .acked

/-- The pending count of a slot (R26). -/
def Slot.pendingCount (s : Slot) : Nat := countResults s.results .pending

/-- A member of a slot is settled: its result is not PENDING and its queued flag is clear (R43). -/
def Slot.memberSettled (s : Slot) (m : LinkId) : Bool := s.results[m.val] != .pending && !setHas s.queued m

/-- All eight members of a slot are settled (R43). -/
def Slot.settled (s : Slot) : Bool := allLinks.all s.memberSettled

/-- The outcome at which an OPEN slot in QUORUM mode reaches its report point, if it does (R36). -/
def Slot.quorumOutcome (s : Slot) (a : SlotAdmission) : Option OrderOutcome :=
  if a.quorum ≤ s.ackedCount then some .ok
  else if s.ackedCount + s.pendingCount < a.quorum then some .quorumLost
  else none

/-- The outcome at which an OPEN slot in ALL mode reaches its report point, if it does (R37). -/
def Slot.allOutcome (s : Slot) (a : SlotAdmission) : Option OrderOutcome :=
  if s.pendingCount ≠ 0 then none
  else if allLinks.all fun m => !setHas a.snapshot m || s.results[m.val] == .acked then some .ok
  else if a.quorum ≤ s.ackedCount then some .partialOk
  else some .quorumLost

/-- The evaluation of the report point under the slot's completion mode (R36, R37). -/
def Slot.evaluated (s : Slot) : Option OrderOutcome :=
  match s.admission with
  | none => none
  | some a => match a.mode with
    | .quorum => s.quorumOutcome a
    | .all => s.allOutcome a

/-- A health that keeps the member in service (08_member_health). -/
def Health.inService : Health → Bool
  | .fenced => false
  | .active | .suspect => true

/-- The member result a failure writes, by its cause (R32); EPOCH_LOST, ADMIN and RESET write FENCED through the slot
marking and have no result of their own. -/
def causeResult : FenceCause → MemberResult
  | .lost => .lost | .full => .full | .staleEpoch => .staleEpoch | .linkDown => .linkDown
  | .deadline => .deadline | .poison => .poison | .epochLost => .fenced | .admin => .fenced | .reset => .fenced

/-- The cause of a NACK that is not retried (R30). -/
def nackCause : NackFailure → FenceCause
  | .full => .full
  | .staleEpoch => .staleEpoch

end Sys2Proof.Machine
end

