-- ==== Sys2Proof/Machine/Formats.lean ====
section
/-! DEFINITION. Byte orders, the CRC, the record, result-area and frame layouts, and the codes (chapter 11, R55,
R103, R104, R180). -/

namespace Sys2Proof.Machine

/-! ### Byte order (R180) -/

/-- `n` bytes of a value, least significant first (host memory and registers). -/
def toLE : Nat → Nat → List Byte
  | 0, _ => []
  | n + 1, v => BitVec.ofNat 8 (v % 256) :: toLE n (v / 256)

/-- The value of bytes, least significant first. -/
def ofLE : List Byte → Nat
  | [] => 0
  | b :: bs => b.toNat + 256 * ofLE bs

/-- `n` bytes of a value, most significant first (frames). -/
def toBE (n v : Nat) : List Byte := (toLE n v).reverse

/-- The value of bytes, most significant first. -/
def ofBE (bs : List Byte) : Nat := ofLE bs.reverse

/-- `n` zero bytes. -/
def zeros (n : Nat) : List Byte := List.replicate n 0

/-- Exactly `n` bytes: cut off, or filled with zero bytes. -/
def padTo (n : Nat) (bs : List Byte) : List Byte := bs.take n ++ zeros (n - bs.length)

/-- The `n` bytes at an offset. -/
def slice (bs : List Byte) (offset n : Nat) : List Byte := (bs.drop offset).take n

/-! ### The 32-bit CRC (R55) -/

/-- The generator polynomial of R55 without its x^32 term. -/
def crcPoly : BitVec 32 := 0x04C11DB7

/-- One bit enters the CRC register. -/
def crcBit (reg : BitVec 32) (bit : Bool) : BitVec 32 :=
  if reg.msb != bit then (reg <<< 1) ^^^ crcPoly else reg <<< 1

/-- One byte enters the register, least significant bit first. -/
def crcByte (reg : BitVec 32) (b : Byte) : BitVec 32 :=
  [0, 1, 2, 3, 4, 5, 6, 7].foldl (fun r i => crcBit r (b.getLsbD i)) reg

/-- The register before the first byte. -/
def crcInit : BitVec 32 := 0xFFFFFFFF

/-- Bytes folded into the register in order. -/
def crcFold (reg : BitVec 32) (bs : List Byte) : BitVec 32 := bs.foldl crcByte reg

/-- The check word of a final register: bit order reversed and every bit complemented. -/
def crcFinish (reg : BitVec 32) : BitVec 32 := ~~~reg.reverse

/-- The 32-bit CRC of bytes (R55). -/
def crc32 (bs : List Byte) : BitVec 32 := crcFinish (crcFold crcInit bs)

/-! ### Codes (11.2, 11.4) -/

/-- The outcome byte. -/
def OrderOutcome.code : OrderOutcome → Byte
  | .ok => 0x00 | .partialOk => 0x01 | .quorumLost => 0x02 | .deadline => 0x03 | .noQuorum => 0x04
  | .seqExhausted => 0x05 | .hostReadFault => 0x10 | .storeFault => 0x11 | .storeShort => 0x12
  | .badKind => 0x20 | .badField => 0x21 | .groupUndefined => 0x22 | .noSetup => 0x23 | .groupBusy => 0x30
  | .linkBusy => 0x31 | .linkNotUp => 0x32 | .memberBusy => 0x33 | .notFenced => 0x34 | .noReply => 0x40
  | .memberBehind => 0x41 | .memberAhead => 0x42 | .memberRefused => 0x43

/-- The member result byte. -/
def MemberResult.code : MemberResult → Byte
  | .none => 0x00 | .pending => 0x01 | .acked => 0x02 | .fenced => 0x03 | .lost => 0x04 | .full => 0x05
  | .staleEpoch => 0x06 | .linkDown => 0x07 | .deadline => 0x08 | .poison => 0x09

/-- The fence cause byte; an absent cause is 0 (R180). -/
def causeCode : Option FenceCause → Byte
  | none => 0x00
  | some .lost => 0x04 | some .full => 0x05 | some .staleEpoch => 0x06 | some .linkDown => 0x07
  | some .deadline => 0x08 | some .poison => 0x09 | some .epochLost => 0x0A | some .admin => 0x0B
  | some .reset => 0x0C

/-- Run state encoding. -/
def RunState.code : RunState → Nat
  | .stopped => 0 | .running => 1 | .quiescing => 2 | .quiesced => 3 | .halted => 4

/-- Chain state encoding. -/
def ChainState.code : ChainState → Nat
  | .stopped => 0 | .idle => 1 | .fetching => 2 | .linkWait => 3 | .held => 4 | .faulted => 5

/-- Held reason encoding. -/
def HeldReason.code : HeldReason → Nat
  | .none => 0 | .slot => 1 | .store => 2 | .frozen => 3 | .barrier => 4

/-- Link state encoding. -/
def LinkState.code : LinkState → Nat
  | .unbound => 0 | .down => 1 | .training => 2 | .up => 3

/-- Member health encoding. -/
def Health.code : Health → Nat
  | .fenced => 0 | .active => 1 | .suspect => 2

/-- Group state encoding of a defined group; UNDEFINED is 0. -/
def GroupState.code : GroupState → Nat
  | .live => 1 | .stalled => 2

/-! ### The order record (11.2) -/

/-- State byte values (R64). -/
def statePosted : Byte := 0x01
/-- The TAKEN state byte. -/
def stateTaken : Byte := 0x02
/-- The DONE state byte. -/
def stateDone : Byte := 0x03

/-- The kinds of order (R63); NOTE carries its link. -/
inductive OrderKind where
  | nop | setup | groupSet | linkBind | exclude | readmit | commit | barrier
  | note (link : LinkId)
  deriving DecidableEq, Repr

/-- The kind a kind byte names, if it names one (R66, 11.2). -/
def orderKind (k : Byte) : Option OrderKind :=
  if k = 0x01 then some .nop
  else if k = 0x02 then some .setup
  else if k = 0x03 then some .groupSet
  else if k = 0x04 then some .linkBind
  else if k = 0x05 then some .exclude
  else if k = 0x06 then some .readmit
  else if k = 0x10 then some .commit
  else if k = 0x11 then some .barrier
  else if 0x20 ≤ k ∧ k ≤ 0x27 then some (.note (Fin.ofNat 8 (k.toNat - 0x20)))
  else none

end Sys2Proof.Machine

namespace Sys2Proof

open Machine

/-- The record in 128 bytes of host memory: header and parameter area (11.2). -/
def Record.ofBytes (bs : List Byte) : Record :=
  { state := bs.getD 0 0, kind := bs.getD 1 0, flags := bs.getD 2 0, outcome := bs.getD 3 0
    tag := BitVec.ofNat 32 (ofLE (slice bs 4 4)), next := BitVec.ofNat 64 (ofLE (slice bs 8 8))
    params := slice bs 0x10 64 }

end Sys2Proof

namespace Sys2Proof.Machine

/-! ### Result areas (11.2, R68) -/

/-- The fields of a result area in their places, without the zero bytes that follow them. -/
def ResultArea.fields : ResultArea → List Byte
  | .zero => []
  | .commit seq epoch snapshot results settle =>
    toLE 4 seq.toNat ++ toLE 2 epoch.toNat ++ [snapshot, 0] ++ results.toList.map MemberResult.code
      ++ toLE 4 settle.toNat
  | .groupSet epoch => toLE 2 epoch.toNat
  | .readmit groups w deciding lastApplied =>
    toLE 2 groups.toNat ++ [BitVec.ofNat 8 w, match deciding with | none => 0xFF | some g => BitVec.ofNat 8 g.val]
      ++ (lastApplied.take Config.maxResultEntries).flatMap fun v => toLE 4 v.toNat
  | .barrier targets marks =>
    toLE 2 targets.toNat ++ zeros 2 ++ (marks.take Config.maxResultEntries).flatMap fun v => toLE 4 v.toNat
  | .note reply => BitVec.ofNat 8 reply.length :: zeros 3 ++ reply

/-- The whole 48-byte result area, every byte the fields do not fill written as zero (R68). -/
def ResultArea.bytes (r : ResultArea) : List Byte := padTo 48 r.fields

/-! ### Frames (11.3) -/

/-- Kind values. -/
def kindHello : BitVec 4 := 0x1
/-- Kind value of HELLO_REPLY. -/
def kindHelloReply : BitVec 4 := 0x2
/-- Kind value of WRITE. -/
def kindWrite : BitVec 4 := 0x3
/-- Kind value of ACK. -/
def kindAck : BitVec 4 := 0x4
/-- Kind value of NACK. -/
def kindNack : BitVec 4 := 0x5
/-- Kind value of EPOCH. -/
def kindEpoch : BitVec 4 := 0x6
/-- Kind value of EPOCH_ACK. -/
def kindEpochAck : BitVec 4 := 0x7
/-- Kind value of FENCE. -/
def kindFence : BitVec 4 := 0x8
/-- Kind value of REJOIN. -/
def kindRejoin : BitVec 4 := 0x9
/-- Kind value of REJOIN_REPLY. -/
def kindRejoinReply : BitVec 4 := 0xA
/-- Kind value of PROBE. -/
def kindProbe : BitVec 4 := 0xB
/-- Kind value of PROBE_REPLY. -/
def kindProbeReply : BitVec 4 := 0xC
/-- Kind value of NOTE. -/
def kindNote : BitVec 4 := 0xD
/-- Kind value of NOTE_REPLY. -/
def kindNoteReply : BitVec 4 := 0xE

end Sys2Proof.Machine

namespace Sys2Proof

open Machine

/-- The header and body of a frame as they are sent (11.3). -/
def Frame.covered (f : Frame) : List Byte :=
  (f.kind ++ f.flags : BitVec 8) :: f.group :: (toBE 2 f.senderTag.toNat ++ toBE 2 f.epoch.toNat
    ++ toBE 2 f.body.length ++ toBE 4 f.sequence.toNat ++ toBE 4 f.param.toNat) ++ f.body

/-- The frame check of a frame (R104). -/
def Frame.check (f : Frame) : BitVec 32 := crc32 f.covered

/-- The whole frame in the order its bytes are sent (R103, R104). -/
def Frame.bytes (f : Frame) : List Byte := f.covered ++ toBE 4 f.check.toNat

/-- The length and frame checks of R104 on delivered bytes, and the frame they hold when it passes. -/
def Frame.ofBytes (bs : List Byte) : Option Frame :=
  let bodyLength := ofBE (slice bs 6 2)
  if bs.length = 16 + bodyLength + 4 ∧ ofBE (slice bs (16 + bodyLength) 4) = (crc32 (bs.take (16 + bodyLength))).toNat
  then
    some
      { kind := (bs.getD 0 0).extractLsb' 4 4, flags := (bs.getD 0 0).extractLsb' 0 4, group := bs.getD 1 0
        senderTag := BitVec.ofNat 16 (ofBE (slice bs 2 2)), epoch := BitVec.ofNat 16 (ofBE (slice bs 4 2))
        sequence := BitVec.ofNat 32 (ofBE (slice bs 8 4)), param := BitVec.ofNat 32 (ofBE (slice bs 12 4))
        body := slice bs 16 bodyLength }
  else none

end Sys2Proof

namespace Sys2Proof.Machine

/-- The command that bytes delivered on a link are: FRAME_DISCARDED when a check of R104 fails, otherwise the row of
their kind. -/
def receivedCommand (m : LinkId) (bs : List Byte) : Instr :=
  match Frame.ofBytes bs with
  | none => .frameDiscarded m bs
  | some f =>
    if f.kind = kindHelloReply then .helloReply m f
    else if f.kind = kindAck then .ack m f
    else if f.kind = kindNack then .nack m f
    else if f.kind = kindEpochAck then .epochAck m f
    else if f.kind = kindRejoinReply then .rejoinReply m f
    else if f.kind = kindProbeReply then .probeReply m f
    else if f.kind = kindNoteReply then .noteReply m f
    else .frameOfUntakenKind m f

end Sys2Proof.Machine

namespace Sys2Proof

open Machine

/-- A frame of the part with every field a kind does not use zero (R103). -/
def Frame.blank (kind : BitVec 4) (tag : NodeTag) : Frame :=
  { kind := kind, flags := 0, group := 0, senderTag := tag, epoch := 0, sequence := 0, param := 0, body := [] }

/-- The 8-byte entry of a REJOIN (11.3). -/
def OfferEntry.bytes (e : OfferEntry) : List Byte :=
  [BitVec.ofNat 8 e.group.val, 0] ++ toBE 2 e.epoch.toNat ++ toBE 4 e.next.toNat

end Sys2Proof

namespace Sys2Proof.Machine

/-- The entries of a REJOIN_REPLY's body: group byte and last applied sequence, 8 bytes an entry (11.3). -/
def replyEntries : List Byte → List (Byte × Seq)
  | g :: _ :: _ :: _ :: a :: b :: c :: d :: rest =>
    (g, BitVec.ofNat 32 (ofBE [a, b, c, d])) :: replyEntries rest
  | _ => []

end Sys2Proof.Machine
end

