-- ==== Sys2Proof/Machine/Operands.lean ====
section
/-! DEFINITION. The operand forms: the fields of register words and of order records' parameter areas (11.2, 11.5). -/

namespace Sys2Proof.Machine

/-! ### Register words (11.5) -/

/-- The value of a POST write: bits 9 to 0; the other bits are ignored (R82). -/
def postValue (w : Word32) : Nat := (w.extractLsb' 0 10).toNat

/-- The command field of a RUN write: bits 3 to 0 (11.5). -/
def runField (w : Word32) : BitVec 4 := w.extractLsb' 0 4

/-- The notice bits of a NOTICE or MASK write: bits 11 to 0 (R158, R159). -/
def noticeBits (w : Word32) : BitVec 12 := w.extractLsb' 0 12

/-! ### Parameter fields -/

end Sys2Proof.Machine

namespace Sys2Proof

open Machine

/-- A one-byte field at an offset of the record. -/
def Record.byte (r : Record) (offset : Nat) : Byte := r.params.getD (offset - 0x10) 0

/-- A little-endian field of `n` bytes at an offset of the record. -/
def Record.field (r : Record) (offset n : Nat) : Nat := ofLE (slice r.params (offset - 0x10) n)

end Sys2Proof

namespace Sys2Proof.Machine

/-- The parameters of a SETUP (R70). -/
structure SetupFields where
  coordinatorTag : NodeTag
  probeInterval : Nat
  mirrorInterval : Nat
  mirrorBase : Addr
  deriving DecidableEq, Repr

end Sys2Proof.Machine

namespace Sys2Proof

open Machine

/-- SETUP's layout (11.2). -/
def Record.setupFields (r : Record) : SetupFields :=
  { coordinatorTag := BitVec.ofNat 16 (r.field 0x10 2), probeInterval := r.field 0x12 2
    mirrorInterval := r.field 0x14 2, mirrorBase := BitVec.ofNat 64 (r.field 0x18 8) }

end Sys2Proof

namespace Sys2Proof.Machine

/-- The parameters of a GROUP_SET (R72). The mode field is kept as its byte, which R3 judges. -/
structure GroupSetFields where
  group : Byte
  members : MemberSet
  quorum : Nat
  retryLimit : Nat
  mode : Byte
  ackDeadline : Nat
  orderDeadline : Nat
  initialNext : Seq
  deriving DecidableEq, Repr

end Sys2Proof.Machine

namespace Sys2Proof

open Machine

/-- GROUP_SET's layout (11.2). -/
def Record.groupSetFields (r : Record) : GroupSetFields :=
  { group := r.byte 0x10, members := r.byte 0x11, quorum := (r.byte 0x12).toNat, retryLimit := (r.byte 0x13).toNat
    mode := r.byte 0x14, ackDeadline := r.field 0x16 2, orderDeadline := r.field 0x18 2
    initialNext := BitVec.ofNat 32 (r.field 0x1C 4) }

/-- The link byte of LINK_BIND, EXCLUDE and READMIT as a link, if it is 0 to 7. -/
def Record.link? (r : Record) : Option LinkId :=
  if h : (r.byte 0x10).toNat < 8 then some ⟨(r.byte 0x10).toNat, h⟩ else none

/-- The member tag of a LINK_BIND (11.2). -/
def Record.bindTag (r : Record) : NodeTag := BitVec.ofNat 16 (r.field 0x12 2)

end Sys2Proof

namespace Sys2Proof.Machine

/-- A byte as a group, if it is 0 to 15. -/
def groupOfByte (b : Byte) : Option GroupId :=
  if h : b.toNat < 16 then some ⟨b.toNat, h⟩ else none

end Sys2Proof.Machine

namespace Sys2Proof

open Machine

/-- The group byte of a COMMIT, GROUP_SET or BARRIER as a group, if it is 0 to 15. -/
def Record.group? (r : Record) : Option GroupId := groupOfByte (r.byte 0x10)

/-- WAIT_ALL of a COMMIT: flags bit 0 (R63, 11.2). -/
def Record.waitAll (r : Record) : Bool := r.flags.getLsbD 0

/-- The payload length of a COMMIT. -/
def Record.payloadLength (r : Record) : Nat := r.field 0x12 2

/-- The payload address of a COMMIT. -/
def Record.payloadAddr (r : Record) : Addr := BitVec.ofNat 64 (r.field 0x18 8)

/-- The target offset of a COMMIT. -/
def Record.targetOffset (r : Record) : BitVec 64 := BitVec.ofNat 64 (r.field 0x20 8)

end Sys2Proof

namespace Sys2Proof.Machine

/-- A BARRIER's target: one group or ALL; neither for any other byte (R78). -/
inductive BarrierTarget where
  | group (g : GroupId)
  | all
  deriving DecidableEq, Repr

end Sys2Proof.Machine

namespace Sys2Proof

open Machine

/-- BARRIER's layout (11.2). -/
def Record.barrierTarget (r : Record) : Option BarrierTarget :=
  if r.byte 0x10 = 0xFF then some .all else (r.group?).map .group

/-- The link of a NOTE: its kind value less 0x20 (11.2). -/
def Record.noteLink (r : Record) : LinkId := Fin.ofNat 8 (r.kind.toNat - 0x20)

/-- The message length of a NOTE: the whole flags byte (R63). -/
def Record.noteLength (r : Record) : Nat := r.flags.toNat

/-- The message of a NOTE: the first message-length bytes of the parameter area. -/
def Record.noteMessage (r : Record) : List Byte := r.params.take r.noteLength

end Sys2Proof

namespace Sys2Proof.Machine

/-- Blocks that a payload length needs: length divided by 256, rounded up (R50). -/
def blocksNeeded (length : Nat) : Nat := (length + 255) / 256

end Sys2Proof.Machine
end

