-- ==== Sys2Proof/Machine/Ops.lean ====
section
/-! DEFINITION. The named operations over the state: accessors, the payload store's bytes, requests between blocks,
notices, and the system port's memory requests. -/

namespace Sys2Proof.Machine

/-! ### What the mirror shows of a group (R15) -/

/-- A group section of a defined group. -/
structure GroupStatus where
  state : GroupState
  effective : MemberSet
  frozen : Bool
  epoch : Epoch
  next : Seq
  settle : Seq
  deriving DecidableEq, Repr

/-- The six mirrored fields of a group record (R15). -/
def GroupRecord.status (r : GroupRecord) : GroupStatus :=
  { state := r.state, effective := r.effective, frozen := r.frozen, epoch := r.epoch, next := r.next
    settle := r.settle }

/-- The group table's mark: the mirror is dirty when a mirrored field of a group has changed (R15). -/
def NoticeUnit.markGroup (u : NoticeUnit) (before after : Option GroupRecord) : NoticeUnit :=
  { u with dirty := u.dirty || before.map GroupRecord.status != after.map GroupRecord.status }

/-! ### Accessors and updates, one block at a time -/

/-- Link engine `m`. -/
def State.link (s : State) (m : LinkId) : LinkEngine := s.links[m.val]

/-- Member record `m`. -/
def State.member (s : State) (m : LinkId) : Member := s.members[m.val]

/-- Slot `i`, absent when it is FREE. -/
def State.slot (s : State) (i : SlotId) : Option Slot := s.window[i.val]

/-- Group record `g`, absent when it is UNDEFINED. -/
def State.group (s : State) (g : GroupId) : Option GroupRecord := s.groups[g.val]

/-- Replace link engine `m`. -/
def State.setLink (s : State) (m : LinkId) (l : LinkEngine) : State := { s with links := s.links.set m.val l }

/-- Change link engine `m`. -/
def State.modLink (s : State) (m : LinkId) (f : LinkEngine → LinkEngine) : State := s.setLink m (f (s.link m))

/-- Replace member record `m`. -/
def State.setMember (s : State) (m : LinkId) (r : Member) : State := { s with members := s.members.set m.val r }

/-- Change member record `m`. -/
def State.modMember (s : State) (m : LinkId) (f : Member → Member) : State := s.setMember m (f (s.member m))

/-- Replace slot `i`. -/
def State.setSlot (s : State) (i : SlotId) (t : Option Slot) : State := { s with window := s.window.set i.val t }

/-- Change slot `i` unless it is FREE. -/
def State.modSlot (s : State) (i : SlotId) (f : Slot → Slot) : State := s.setSlot i ((s.slot i).map f)

/-- Replace group record `g`; a change of its mirrored fields marks the mirror dirty (R15). -/
def State.setGroup (s : State) (g : GroupId) (r : Option GroupRecord) : State :=
  { s with groups := s.groups.set g.val r, notices := s.notices.markGroup (s.group g) r }

/-- Change group record `g` unless it is UNDEFINED. -/
def State.modGroup (s : State) (g : GroupId) (f : GroupRecord → GroupRecord) : State :=
  s.setGroup g ((s.group g).map f)

/-- Change the chain reader. -/
def State.modChain (s : State) (f : ChainReader → ChainReader) : State := { s with chain := f s.chain }

/-- Change the store. -/
def State.modStore (s : State) (f : PayloadStore → PayloadStore) : State := { s with store := f s.store }

/-- Change the notice unit. -/
def State.modNotices (s : State) (f : NoticeUnit → NoticeUnit) : State := { s with notices := f s.notices }

/-- Change the system port. -/
def State.modPort (s : State) (f : SystemPort → SystemPort) : State := { s with port := f s.port }

/-- Change one gate of a link engine. -/
def LinkEngine.modGate (l : LinkEngine) (g : GroupId) (f : Gate → Gate) : LinkEngine :=
  { l with gates := l.gates.set g.val (f l.gates[g.val]) }

/-- Do something for each link in ascending order. -/
def forLinks (f : LinkId → State → State) (s : State) : State := allLinks.foldl (fun acc m => f m acc) s

/-- Do something for each slot in ascending order. -/
def forSlots (f : SlotId → State → State) (s : State) : State := allSlots.foldl (fun acc i => f i acc) s

/-- Do something for each group in ascending order. -/
def forGroups (f : GroupId → State → State) (s : State) : State := allGroups.foldl (fun acc g => f g acc) s

/-! ### Requests and reports between blocks (log 1) -/

/-- A block sends another a request, report or notice, to be taken later. -/
def State.send (s : State) (c : Instr) : State := { s with inFlight := s.inFlight ++ [c] }

/-- A request is taken: its oldest copy in flight is there no longer. -/
def State.taken (s : State) (c : Instr) : State := { s with inFlight := s.inFlight.erase c }

/-! ### Notices and time -/

/-- A raw notice is set; a change of it marks the mirror dirty (R157). -/
def NoticeUnit.raise (u : NoticeUnit) (n : Notice) : NoticeUnit :=
  { u with raw := u.raw ||| n.flag, dirty := u.dirty || (u.raw ||| n.flag) != u.raw }

/-- The interrupt is reconsidered: with active notices and the latch clear, the message is sent (R166). -/
def State.reconsider (s : State) : State :=
  if s.notices.active ≠ 0 ∧ s.port.latch = false then
    s.modPort fun p => { p with latch := true, interruptsSent := p.interruptsSent + 1 }
  else s

/-- A reconsidering event of OFF and BROKEN (R166). -/
def State.reconsiderUnlessOn (s : State) : State := if s.notices.mirrorState = .on then s else s.reconsider

/-- A block raises a notice (R157). Where it changes the active notices and no mirror is kept, the interrupt is
reconsidered at once (R166, log 17). -/
def State.raise (s : State) (n : Notice) : State :=
  let t := s.modNotices fun u => u.raise n
  if t.notices.active = s.notices.active then t else t.reconsiderUnlessOn

/-- An explicit mark of the mirror (R161); the marks that follow a change of a mirrored field are made by `setGroup` for the
group table and at the event's end for the other blocks (log 16). -/
def State.markDirty (s : State) : State := s.modNotices fun u => { u with dirty := true }

/-- A timer that was to expire at `t` has expired, so the time is `t` or later (log 2). -/
def State.reachTime (s : State) (t : Nat) : State := { s with now := max s.now t }

/-! ### The bytes of the payload store (R48, R54, R62) -/

/-- The byte at an address of the canonical cell list; an unlisted byte reads 0 (R62). -/
def readCell : List Host.Cell → Nat → Byte
  | [], _ => 0
  | (a, b) :: rest, k => if a = k then b else readCell rest k

/-- The cell list after a byte is written; writing 0 removes the entry. -/
def writeCell : List Host.Cell → Nat → Byte → List Host.Cell
  | [], k, v => if v = 0 then [] else [(k, v)]
  | (a, b) :: rest, k, v =>
    if k < a then (if v = 0 then (a, b) :: rest else (k, v) :: (a, b) :: rest)
    else if k = a then (if v = 0 then rest else (k, v) :: rest)
    else (a, b) :: writeCell rest k v

/-- The cell list after bytes are written from an address upward. -/
def writeCells : List Host.Cell → Nat → List Byte → List Host.Cell
  | cells, _, [] => cells
  | cells, k, v :: vs => writeCells (writeCell cells k v) (k + 1) vs

/-- Addresses strictly rising from a bound, every entry below 65,536 and none equal to what an unlisted byte reads. -/
def cellsWfFrom : Nat → List Host.Cell → Bool
  | _, [] => true
  | lo, (a, b) :: rest => decide (lo ≤ a) && decide (a < 65536) && b != 0 && cellsWfFrom (a + 1) rest

/-- The canonical form of the store's bytes. -/
def Memory.wf (cells : List Host.Cell) : Bool := cellsWfFrom 0 cells

/-- The address of byte `j` of a block. -/
def blockAddr (b : BlockId) (j : Nat) : Nat := 256 * b.val + j

/-- Byte `j` of block `b`. -/
def PayloadStore.byte (p : PayloadStore) (b : BlockId) (j : Nat) : Byte := readCell p.cells (blockAddr b j)

/-- The loader writes a whole block: the piece's bytes, zero fill, and every word's parity, so that no word of the
block disagrees with its parity any longer (R54). -/
def PayloadStore.writeBlock (p : PayloadStore) (b : BlockId) (piece : List Byte) : PayloadStore :=
  { p with
    cells := writeCells p.cells (blockAddr b 0) (padTo 256 piece)
    badWords := p.badWords.filter fun w => w / Config.blockWords != b.val }

/-- Byte `i` of a payload that lies on a block list: list entry i ÷ 256 (R19). -/
def PayloadStore.payloadByte (p : PayloadStore) (blocks : List BlockId) (i : Nat) : Byte :=
  match blocks[i / 256]? with
  | none => 0
  | some b => p.byte b (i % 256)

/-- The first `length` payload bytes on a block list, in order (R59). -/
def PayloadStore.payload (p : PayloadStore) (blocks : List BlockId) (length : Nat) : List Byte :=
  (List.range length).map (p.payloadByte blocks)

/-- A word number added to the rising list of words that disagree with their parity. -/
def insertWord : List Nat → Nat → List Nat
  | [], w => [w]
  | v :: rest, w => if w < v then w :: v :: rest else if w = v then v :: rest else v :: insertWord rest w

/-- The store words of a payload, in the order a frame read takes them (R59). -/
def payloadWords (blocks : List BlockId) (length : Nat) : List Nat :=
  (List.range ((length + 7) / 8)).map fun i =>
    match blocks[i / Config.blockWords]? with
    | none => 0
    | some b => Config.blockWords * b.val + i % Config.blockWords

/-- The first word of a payload that fails its parity check, if one does (R59). -/
def PayloadStore.badWord (p : PayloadStore) (blocks : List BlockId) (length : Nat) : Option Nat :=
  (payloadWords blocks length).find? p.badWords.contains

/-- Release of a block list: each block not on the quarantine list goes to the tail of the free list (R52). -/
def PayloadStore.releaseBlocks (p : PayloadStore) (blocks : List BlockId) : PayloadStore :=
  { p with free := p.free ++ blocks.filter fun b => !p.quarantine.contains b }

/-- How many blocks a release appends (R52). -/
def PayloadStore.releaseCount (p : PayloadStore) (blocks : List BlockId) : Nat :=
  (blocks.filter fun b => !p.quarantine.contains b).length

/-- The answers to a fit query (R50). -/
inductive Fit where
  | fits | never | wait
  deriving DecidableEq, Repr

/-- The fit query for a payload length (R50). -/
def PayloadStore.fit (p : PayloadStore) (length : Nat) : Fit :=
  if length = 0 ∨ Config.maxPayload < length then .fits
  else if Config.blocks - p.quarantine.length < blocksNeeded length then .never
  else if p.free.length < blocksNeeded length then .wait
  else .fits

/-! ### The system port's memory requests (R100, R101) -/

/-- The class of a request. -/
def RequestKind.cls : RequestKind → RequestClass
  | .resultArea | .outcome | .done => .report
  | .mirrorLeading | .mirrorBody | .mirrorTrailing => .mirror
  | .nextField | .record | .reRead | .takenWrite => .walk
  | .piece => .payload

/-- The port refuses a request whose last byte lies at or above 2^48 (R101). Those who ask for a request judge it at once
(log 10). -/
def MemRequest.refused (r : MemRequest) : Bool := decide (Config.addressLimit ≤ r.addr.toNat + r.len - 1)

/-- A read request. -/
def readRequest (kind : RequestKind) (addr : Addr) (len : Nat) : MemRequest :=
  { kind := kind, addr := addr, len := len, data := [], abandoned := false }

/-- A write request. -/
def writeRequest (kind : RequestKind) (addr : Addr) (bytes : List Byte) : MemRequest :=
  { kind := kind, addr := addr, len := bytes.length, data := bytes, abandoned := false }

/-- The waiting request of a class. -/
def SystemPort.waiting (p : SystemPort) : RequestClass → Option MemRequest
  | .report => p.waitReport
  | .mirror => p.waitMirror
  | .walk => p.waitWalk
  | .payload => p.waitPayload

/-- Replace the waiting request of a class. -/
def SystemPort.setWaiting (p : SystemPort) (c : RequestClass) (r : Option MemRequest) : SystemPort :=
  match c with
  | .report => { p with waitReport := r }
  | .mirror => { p with waitMirror := r }
  | .walk => { p with waitWalk := r }
  | .payload => { p with waitPayload := r }

/-- A request that is not refused waits at the arbiter. -/
def State.ask (s : State) (r : MemRequest) : State := s.modPort fun p => p.setWaiting r.kind.cls (some r)

/-- The arbiter: with the resource free, the waiting request of the highest class is issued (R100). -/
def SystemPort.arbitrate (p : SystemPort) : SystemPort :=
  match p.current with
  | some _ => p
  | none =>
    match p.waitReport, p.waitMirror, p.waitWalk, p.waitPayload with
    | some r, _, _, _ => { p with current := some r, waitReport := none }
    | none, some r, _, _ => { p with current := some r, waitMirror := none }
    | none, none, some r, _ => { p with current := some r, waitWalk := none }
    | none, none, none, some r => { p with current := some r, waitPayload := none }
    | none, none, none, none => p

/-- The request in flight, when it is of the kind that completes. -/
def State.completing (s : State) (kind : RequestKind) : Option MemRequest :=
  match s.port.current with
  | none => none
  | some r => if r.kind = kind then some r else none

/-- The request in flight, when it is of the class that completes. -/
def State.completingClass (s : State) (c : RequestClass) : Option MemRequest :=
  match s.port.current with
  | none => none
  | some r => if r.kind.cls = c then some r else none

/-- The resource becomes free at a completion. -/
def State.freeResource (s : State) : State := s.modPort fun p => { p with current := none }

/-- The request in flight is given up if it is of a class: its completion will be discarded. -/
def SystemPort.abandonCurrent (p : SystemPort) (c : RequestClass) : SystemPort :=
  match p.current with
  | none => p
  | some r => if r.kind.cls = c then { p with current := some { r with abandoned := true } } else p

/-- A class's waiting request is withdrawn and its request in flight given up. -/
def SystemPort.dropClass (p : SystemPort) (c : RequestClass) : SystemPort :=
  (p.setWaiting c none).abandonCurrent c

/-- ORIGIN, formed from its halves (R169). -/
def SystemPort.origin (p : SystemPort) : Addr := p.originHi ++ p.originLo

/-! ### Register reads (R177, R179, 11.5) -/

/-- The current value of the 32-bit word at an offset of the register window. -/
def State.readRegister (s : State) (offset : Nat) : Word32 :=
  if offset = 0x00 then s.port.originLo
  else if offset = 0x04 then s.port.originHi
  else if offset = 0x08 then BitVec.ofNat 32 s.chain.pendingPosts
  else if offset = 0x0C then BitVec.ofNat 32 (s.port.run.code + 256 * s.chain.state.code)
  else if offset = 0x10 then s.notices.raw.zeroExtend 32
  else if offset = 0x14 then s.notices.mask.zeroExtend 32
  else 0

/-- The 32 bytes of the register window as reads return them. -/
def State.windowImage (s : State) : List Byte :=
  [0x00, 0x04, 0x08, 0x0C, 0x10, 0x14, 0x18, 0x1C].flatMap fun o => toLE 4 (s.readRegister o).toNat

/-- A read of `bytes` bytes at an offset returns the addressed bytes and changes nothing (R177). -/
def State.readWindow (s : State) (offset bytes : Nat) : List Byte := slice s.windowImage offset bytes

end Sys2Proof.Machine
end

