-- ==== Sys2Proof/Machine/GroupTable.lean ====
section
/-! DEFINITION. The group table (chapter 1): definition, epochs and gate requests, membership changes, admission, slots
in use and settle mark. -/

namespace Sys2Proof.Machine

/-! ### State and epochs -/

/-- Rewrite a group record with its state derived anew; GROUP_STALL is raised on a fall into STALLED from LIVE or
UNDEFINED (R2). -/
def State.deriveGroup (s : State) (g : GroupId) (r : GroupRecord) : State :=
  let before := (s.group g).map GroupRecord.state
  let now := derivedState r.quorum r.effective
  let s := s.setGroup g (some { r with state := now })
  if now = .stalled ∧ before ≠ some .stalled then s.raise .groupStall else s

/-- The gate request that link `m` is sent for a group: close for a member of the effective set, else release (R7). -/
def gateRequest (g : GroupId) (effective : MemberSet) (m : LinkId) : Instr :=
  if setHas effective m then .close m g else .release m g

/-- The eight gate requests of an epoch change (R7), by ascending link number, an order that R7 does not give (log 28). -/
def State.sendGates (s : State) (g : GroupId) (effective : MemberSet) : State :=
  forLinks (fun m s => s.send (gateRequest g effective m)) s

/-- The epoch of a group; 0 when it is UNDEFINED (R1). -/
def State.epochOf (s : State) (g : GroupId) : Epoch :=
  match s.group g with
  | none => 0
  | some r => r.epoch

/-! ### Defining a group (R3 to R5) -/

/-- The field checks of steps 3 and 4 of R3 on a GROUP_SET with a non-empty member set. -/
def GroupSetFields.bad (f : GroupSetFields) : Bool :=
  f.quorum == 0 || decide (8 < f.quorum) || decide (setCard f.members < f.quorum)
    || decide (7 < f.retryLimit) || decide (f.ackDeadline < 16) || f.orderDeadline == 0
    || decide (4095 < f.orderDeadline) || decide (1 < f.mode)

/-- A group has slots in use or is frozen (R3 step 5). -/
def State.groupBusy (s : State) (g : GroupId) : Bool :=
  match s.group g with
  | none => false
  | some r => decide (0 < r.slotsInUse) || r.frozen

/-- The group table's answer to a GROUP_SET (R3); OK when it is taken. -/
def State.groupSetOutcome (s : State) (f : GroupSetFields) : OrderOutcome :=
  match groupOfByte f.group with
  | none => .badField
  | some g =>
    if f.members ≠ 0 ∧ f.bad then .badField
    else if s.groupBusy g then .groupBusy
    else .ok

/-- The members of a set that are in service, as the membership unit holds their health (R4). -/
def State.inServiceOf (s : State) (set : MemberSet) : MemberSet :=
  setOf fun m => setHas set m && (s.member m).health.inService

/-- The record that a taken GROUP_SET writes (R4), its state still to be derived. -/
def State.definedRecord (s : State) (g : GroupId) (f : GroupSetFields) : GroupRecord :=
  { state := .stalled, defined := f.members, quorum := f.quorum, retryLimit := f.retryLimit
    ackDeadline := f.ackDeadline, orderDeadline := f.orderDeadline, mode := if f.mode = 0 then .quorum else .all
    base := f.initialNext, next := f.initialNext, epoch := epochSucc (s.epochOf g)
    effective := s.inServiceOf f.members, settle := f.initialNext, frozen := false, slotsInUse := 0 }

/-- A taken GROUP_SET with a non-empty member set (R4). -/
def State.defineGroup (s : State) (g : GroupId) (f : GroupSetFields) : State :=
  let r := s.definedRecord g f
  (s.deriveGroup g r).sendGates g r.effective

/-- A taken GROUP_SET with member set {} (R5); from UNDEFINED it changes nothing. -/
def State.undefineGroup (s : State) (g : GroupId) : State :=
  match s.group g with
  | none => s
  | some _ => (s.setGroup g none).sendGates g 0

/-! ### Membership changes (R8 to R10) -/

/-- The removal of a member from one group (R8). -/
def State.removeFrom (m : LinkId) (g : GroupId) (s : State) : State :=
  match s.group g with
  | none => s
  | some r =>
    if setHas r.effective m then
      let r := { r with effective := setErase r.effective m, epoch := epochSucc r.epoch }
      (s.deriveGroup g r).sendGates g r.effective
    else s

/-- A fence's removal request (R8), by ascending group number, an order that R8 does not give (log 28). -/
def State.removeMember (s : State) (m : LinkId) : State := forGroups (State.removeFrom m) s

/-- A defined group whose defined members contain the member (R9). -/
def State.memberGroup (s : State) (m : LinkId) (g : GroupId) : Bool :=
  match s.group g with
  | none => false
  | some r => setHas r.defined m

/-- The offer entry of a group (R9). -/
def offerEntry (g : GroupId) (r : GroupRecord) : OfferEntry :=
  { group := g, epoch := epochSucc r.epoch, next := r.next, atBase := r.next == r.base }

/-- The offer for a member, unless one of its groups has slots in use or is frozen (R9). -/
def State.offerFor (s : State) (m : LinkId) : Option (List OfferEntry) :=
  let gs := allGroups.filter (s.memberGroup m)
  if gs.any s.groupBusy then none
  else some (gs.filterMap fun g => (s.group g).map (offerEntry g))

/-- Set or clear the frozen flag of each group of an offer (R9, R10). -/
def State.setFrozen (s : State) (offer : List OfferEntry) (flag : Bool) : State :=
  offer.foldl (fun s e => s.modGroup e.group fun r => { r with frozen := flag }) s

/-- The gate request for link `k` when member `m` has been readmitted (R7, R10): release to the member's own link when
the new epoch is the one it was offered. -/
def readmitGate (m : LinkId) (e : OfferEntry) (r : GroupRecord) (k : LinkId) : Instr :=
  if k = m ∧ r.epoch = e.epoch then .release k e.group else gateRequest e.group r.effective k

/-- An accepted readmission at one group of the offer (R10). -/
def State.rejoinGroup (m : LinkId) (s : State) (e : OfferEntry) : State :=
  match s.group e.group with
  | none => s
  | some r =>
    let r := { r with effective := setInsert r.effective m, epoch := epochSucc r.epoch, frozen := false }
    forLinks (fun k s => s.send (readmitGate m e r k)) (s.deriveGroup e.group r)

/-- The end of a READMIT at the group table (R10), group by group in the offer's order, an order that R10 does not give
(log 28); the clearing of the flags is sent as one event. -/
def State.endReadmission (s : State) (m : LinkId) (accepted : Bool) (offer : List OfferEntry) : State :=
  let t := if accepted then offer.foldl (State.rejoinGroup m) s else s.setFrozen offer false
  if offer.isEmpty then t else t.send .frozenFlagsCleared

/-! ### Admission, slots in use, settle mark (R11 to R13) -/

/-- The admission data a group record gives (R11). -/
def GroupRecord.admissionData (r : GroupRecord) : AdmissionData :=
  { seq := r.next, epoch := r.epoch, quorum := r.quorum, effective := r.effective
    orderDeadline := r.orderDeadline, mode := r.mode }

/-- The window's admission request (R11). A group that is UNDEFINED has no quorum (log 24). -/
def State.requestAdmission (s : State) (i : SlotId) (g : GroupId) : State :=
  match s.group g with
  | none => s.send (.admissionRefused i .noQuorum)
  | some r =>
    if r.state = .stalled then s.send (.admissionRefused i .noQuorum)
    else if r.next = Config.noneApplied then s.send (.admissionRefused i .seqExhausted)
    else (s.setGroup g (some { r with next := r.next + 1 })).send (.admissionGranted i r.admissionData)

/-- Take one request if it is an admission request. -/
def State.takeAdmission (s : State) (c : Instr) : State :=
  match c with
  | .admissionRequest i g => (s.taken c).requestAdmission i g
  | _ => s

/-- Take every admission request under way: the window sent them before it frees its slots (R18, R21, R46, log 35). -/
def State.takeAdmissions (s : State) : State := s.inFlight.foldl State.takeAdmission s

/-- The smaller of two sequences. -/
def seqMin (a b : Seq) : Seq := if a ≤ b then a else b

/-- The sequence that an answer under way gives a slot (R11). -/
def grantedSeq (i : SlotId) : Instr → Option Seq
  | .admissionGranted k d => if k = i then some d.seq else none
  | _ => none

/-- The sequence a slot holds: its own, or the one that the group table has assigned it in an answer still under way
(R11, R13, log 34). -/
def State.heldSeq (s : State) (i : SlotId) (t : Slot) : Option Seq :=
  match t.admission with
  | some a => some a.seq
  | none => s.inFlight.findSome? (grantedSeq i)

/-- The sequences held by the slots of a group (R13). -/
def State.groupSeqs (s : State) (g : GroupId) : List Seq :=
  allSlots.filterMap fun i =>
    match s.slot i with
    | none => none
    | some t => if t.group = g then s.heldSeq i t else none

/-- The settle mark the slots give: the smallest sequence held, or the next sequence (R13). -/
def settleFrom (next : Seq) : List Seq → Seq
  | [] => next
  | q :: qs => qs.foldl seqMin q

/-- The window takes a slot for the group (R12). -/
def State.countSlot (s : State) (g : GroupId) : State :=
  s.modGroup g fun r => { r with slotsInUse := r.slotsInUse + 1 }

/-- A slot of the group has become FREE: the count falls and the settle mark is recomputed (R12, R13). -/
def State.uncountSlot (s : State) (g : GroupId) : State :=
  s.modGroup g fun r => { r with slotsInUse := r.slotsInUse - 1, settle := settleFrom r.next (s.groupSeqs g) }

/-- The settle mark of a group as others read it (R14); 0 when it is UNDEFINED. -/
def State.settleMark (s : State) (g : GroupId) : Seq :=
  match s.group g with
  | none => 0
  | some r => r.settle

/-- The record of a defined group after a soft reset's initialization (R17). -/
def GroupRecord.softReset (r : GroupRecord) : GroupRecord :=
  { r with effective := 0, state := .stalled, frozen := false, slotsInUse := 0, settle := r.next
           epoch := epochSucc r.epoch }

end Sys2Proof.Machine
end

