-- ==== Sys2Proof/Machine/Reporter.lean ====
section
/-! DEFINITION. The chain reader's FAULTED state, and the reporter that empties the report queue (R94 to R99). -/

namespace Sys2Proof.Machine

/-! ### The walk's place and its stop -/

/-- The walk steps during which a fetch holds a report place (R84, R95). -/
def WalkStep.holdsPlace : WalkStep → Bool
  | .nextField | .record | .reRead | .takenWrite => true
  | .idle | .awaitFetch | .awaitRefetch | .awaitReRead | .dispatching => false

/-- A report place is given back or freed (R84, R95). -/
def ChainReader.freePlace (c : ChainReader) : ChainReader := { c with reserved := c.reserved - 1 }

/-- A held reason without a SLOT, STORE or FROZEN hold; a held BARRIER keeps its reason (R91, R93, R98). -/
def HeldReason.dropHold : HeldReason → HeldReason
  | .barrier => .barrier
  | .none | .slot | .store | .frozen => .none

/-- The chain reader's part of stopping the walk: the link-wait timer stops, a hold is dropped and a fetch gives back
its place; an order being dispatched is not touched (R98, R171). The link-wait count is kept, which R98 leaves open (log
32). -/
def ChainReader.stopWalk (c : ChainReader) : ChainReader :=
  { c with
    linkWaitTimer := none
    heldReason := c.heldReason.dropHold
    reserved := if c.walk.holdsPlace then c.reserved - 1 else c.reserved
    fetchAddr := none
    fetched := none
    walk := if c.walk = .dispatching then .dispatching else .idle }

/-- Stop the walk: a walk request not issued is withdrawn and the result of one issued will be discarded (R98, R171,
log 11). -/
def State.stopWalk (s : State) : State :=
  (s.modPort fun p => p.dropClass .walk).modChain ChainReader.stopWalk

/-- A TAKEN write has been issued and will be carried through to its claim (R89). -/
def State.takenIssued (s : State) : Bool :=
  match s.port.current with
  | none => false
  | some r => r.kind == .takenWrite && !r.abandoned

/-- Enter FAULTED (R98): at once, or after the claim of a TAKEN write already issued. -/
def State.enterFaulted (s : State) : State :=
  if s.chain.state = .faulted then s
  else if s.takenIssued then s.modChain fun c => { c with faultDue := true }
  else s.stopWalk.modChain fun c => { c with state := .faulted }

/-- Raise CHAIN_FAULT and enter FAULTED (R98). -/
def State.chainFault (s : State) : State := (s.raise .chainFault).enterFaulted

/-! ### The chain quiet report -/

/-- A claim is in progress: a TAKEN write is asked for or issued, or an order is being dispatched (R96, R172). -/
def ChainReader.claiming (c : ChainReader) : Bool := c.walk == .takenWrite || c.walk == .dispatching

/-- The chain reader is quiet: no report, no claim in progress, no held BARRIER (R96, R172). -/
def ChainReader.quiet (c : ChainReader) : Bool := c.reports.isEmpty && !c.claiming && c.heldBarrier.isNone

/-- In QUIESCING a quiet chain reader tells run control so (R96). -/
def State.reportQuiet (s : State) : State :=
  if s.port.run = .quiescing ∧ s.chain.quiet then s.send .chainQuiet else s

/-! ### The reporter (R96, R97) -/

/-- The memory write of a stage of a report: the whole result area, the outcome byte, the state byte (R96, 11.2). -/
def Report.request (r : Report) : ReportStage → MemRequest
  | .resultArea => writeRequest .resultArea (r.order + 0x50) r.result.bytes
  | .outcome => writeRequest .outcome (r.order + 3) [r.outcome.code]
  | .done => writeRequest .done r.order [stateDone]

/-- A write of the head report has faulted for the first time: the 8 us timer starts (R97). -/
def State.startRetry (s : State) (stage : ReportStage) : State :=
  s.modChain fun c => { c with reporter := .retryWait stage, retryTimer := some (s.now + Config.retryMicros) }

/-- Start the report at the head of the queue, if there is one (R96). -/
def State.beginReport (s : State) : State :=
  match s.chain.reports with
  | [] => s.modChain fun c => { c with reporter := .idle }
  | r :: _ =>
    let s := s.modChain fun c => { c with retryUsed := false }
    if (r.request .resultArea).refused then s.startRetry .resultArea
    else (s.ask (r.request .resultArea)).modChain fun c => { c with reporter := .writing .resultArea }

/-- A report joins the tail of the queue, and is started if the reporter has nothing to do (R94, R96). -/
def State.queueReport (s : State) (r : Report) : State :=
  let s := s.modChain fun c => { c with reports := c.reports ++ [r] }
  match s.chain.reporter with
  | .idle => s.beginReport
  | .writing _ | .retryWait _ => s

/-- A report of an order that no slot carries. -/
def State.reportOrder (s : State) (order : Addr) (outcome : OrderOutcome) (result : ResultArea) : State :=
  s.queueReport { order := order, outcome := outcome, result := result, slot := none }

/-- A refusal, or an end at dispatch, with a result area of zeros (R67, R68). -/
def State.endOrder (s : State) (order : Addr) (outcome : OrderOutcome) : State := s.reportOrder order outcome .zero

/-- The report write end is sent to the window when the report came from a slot (R41, R96). -/
def State.sendWriteEnd (s : State) (r : Report) : State :=
  match r.slot with
  | none => s
  | some i => s.send (.reportWriteEnd i)

/-- The head report leaves the queue and its place is freed (R96, R97). -/
def State.dropHead (s : State) : State :=
  s.modChain fun c => { c with reports := c.reports.tail, reserved := c.reserved - 1, retryTimer := none }

/-- The head report is given up after its second fault (R97). -/
def State.giveUp (s : State) : State :=
  match s.chain.reports with
  | [] => s.modChain fun c => { c with reporter := .idle }
  | r :: _ =>
    let s := s.raise .systemFault
    let s := s.modChain fun c => { c with unreported := if c.unreported = 0 then r.order else c.unreported }
    (((s.dropHead.sendWriteEnd r).enterFaulted).beginReport).reportQuiet

/-- A write of the head report has faulted or been refused (R97). -/
def State.reportFaulted (s : State) (stage : ReportStage) : State :=
  if s.chain.retryUsed then s.giveUp else s.startRetry stage

/-- Ask for a write of the head report (R96). -/
def State.askReport (s : State) (stage : ReportStage) : State :=
  match s.chain.reports with
  | [] => s.modChain fun c => { c with reporter := .idle }
  | r :: _ =>
    if (r.request stage).refused then s.reportFaulted stage
    else (s.ask (r.request stage)).modChain fun c => { c with reporter := .writing stage }

/-- Completion without error of the result-area or the outcome write: the next write is asked for, unless the report
was abandoned (R96, R182). -/
def State.stageWritten (s : State) (kind : RequestKind) (next : ReportStage) : State :=
  match s.completing kind with
  | none => s
  | some r => if r.abandoned then s.freeResource else s.freeResource.askReport next

/-- A record has reached DONE: the tally rises and DONE is raised (R160). -/
def State.tallyDone (s : State) : State :=
  (s.modNotices fun u => { u with doneTally := u.doneTally + 1 }).raise .done

/-- Completion with an error of a report write (R97, R182). -/
def State.reportWriteError (s : State) : State :=
  match s.completingClass .report with
  | none => s
  | some r =>
    let s := s.freeResource
    if r.abandoned then s
    else match s.chain.reporter with
      | .writing stage => s.reportFaulted stage
      | .idle | .retryWait _ => s

/-- Expiry of the report retry timer: the same write is asked for again (R97). -/
def State.reportRetry (s : State) : State :=
  match s.chain.retryTimer, s.chain.reporter with
  | some t, .retryWait stage =>
    ((s.reachTime t).modChain fun c => { c with retryTimer := none, retryUsed := true }).askReport stage
  | _, _ => s

end Sys2Proof.Machine
end

