-- ==== Sys2Proof/Machine/Window.lean ====
section
/-! DEFINITION. The commit window (chapter 2): opening, member results, report point, trailing, retire. -/

namespace Sys2Proof.Machine

/-! ### Report point (R36 to R40) -/

/-- The result fields a slot's report carries (R40). -/
def Slot.resultArea (t : Slot) (settle : Seq) : ResultArea :=
  match t.admission with
  | none => .commit 0 0 0 t.results settle
  | some a => .commit a.seq a.epoch a.snapshot t.results settle

/-- The slot at its report point (R39). -/
def Slot.reported (t : Slot) (outcome : OrderOutcome) (settle : Seq) : Slot :=
  { t with state := .reporting, report := some { outcome := outcome, snapshot := t.results, settle := settle } }

/-- The report point (R24, R25, R39). -/
def State.reportPoint (s : State) (i : SlotId) (outcome : OrderOutcome) : State :=
  match s.slot i with
  | none => s
  | some t =>
    let settle := s.settleMark t.group
    (s.setSlot i (some (t.reported outcome settle))).queueReport
      { order := t.order, outcome := outcome, result := t.resultArea settle, slot := some i }

/-! ### Retire (R43, R44) -/

/-- A slot is given back: its blocks to the store, its group's count and settle mark, and FREE (R43, R46). -/
def State.freeSlot (s : State) (i : SlotId) (t : Slot) : State :=
  ((s.modStore fun p => p.releaseBlocks t.blocks).setSlot i none).uncountSlot t.group

/-- The number of slots that are not FREE (R45). -/
def State.slotsInUse (s : State) : Nat := allSlots.countP fun i => (s.slot i).isSome

/-- Retire: the slot is given back and the releases of R44 are sent in order. -/
def State.retire (s : State) (i : SlotId) : State :=
  match s.slot i with
  | none => s
  | some t =>
    let released := s.store.releaseCount t.blocks
    let s := (s.freeSlot i t).send .slotRelease
    let s := if 0 < released then s.send .blockRelease else s
    let s := s.send .barrierReEvaluation
    if s.slotsInUse = 0 then s.send .windowEmpty else s

/-- After an event at a slot: an OPEN slot's report point is evaluated, a TRAILING slot retires when it is settled
(R36, R37, R42, R43). -/
def State.afterChange (s : State) (i : SlotId) : State :=
  match s.slot i with
  | none => s
  | some t =>
    match t.state with
    | .opened =>
      match t.evaluated with
      | none => s
      | some outcome => s.reportPoint i outcome
    | .trailing => if t.settled then s.retire i else s
    | .loading | .reporting => s

/-! ### Matching and results (R26, R27, R32) -/

/-- A slot is OPEN, REPORTING or TRAILING and holds a group's sequence (R27). -/
def Slot.isFor (t : Slot) (g : GroupId) (seq : Seq) : Bool :=
  t.state != .loading && t.group == g && t.admission.map SlotAdmission.seq == some seq

/-- The slot that a report, request or notice names, if the window takes it (R27). -/
def State.matchSlot (s : State) (i : SlotId) (g : GroupId) (seq : Seq) : Option Slot :=
  (s.slot i).filter fun t => t.isFor g seq

/-- A member's result in a slot. -/
def Slot.result (t : Slot) (m : LinkId) : MemberResult := t.results[m.val]

/-- The slot with a member's result replaced. -/
def Slot.setResult (t : Slot) (m : LinkId) (r : MemberResult) : Slot := { t with results := t.results.set m.val r }

/-- The links whose result in a slot is PENDING, ascending. -/
def Slot.pendingLinks (t : Slot) : List LinkId := allLinks.filter fun m => t.result m == .pending

/-- Every PENDING result of a slot replaced (R34, R38). -/
def Slot.failPending (t : Slot) (r : MemberResult) : Slot :=
  { t with results := t.results.map fun v => if v = .pending then r else v }

/-- A failure kind is written for one PENDING member, its failure report is sent, and the slot is evaluated or checked
(R29 to R32). -/
def State.failMember (s : State) (i : SlotId) (t : Slot) (m : LinkId) (cause : FenceCause) : State :=
  ((s.setSlot i (some (t.setResult m (causeResult cause)))).send (.fenceRequest m cause)).afterChange i

/-- A failure report for each of some members, in the list's order: both callers give the PENDING members by ascending link
number, an order that R34 and R38 do not give (log 28). -/
def State.reportFailures (s : State) (ms : List LinkId) (cause : FenceCause) : State :=
  ms.foldl (fun s m => s.send (.fenceRequest m cause)) s

/-! ### Opening (R22, R23) and refusals (R24) -/

/-- The deadline expiry time: the order deadline is in milliseconds, the time in microseconds (R22, log 27). -/
def deadlineAt (now orderDeadline : Nat) : Nat := now + 1000 * orderDeadline

/-- The completion mode of an opened slot (R22). -/
def openMode (waitAll : Bool) (mode : CompletionMode) : CompletionMode :=
  if waitAll ∨ mode = .all then .all else .quorum

/-- The result of each link at opening (R22 steps 3 and 4). -/
def State.openingResult (s : State) (snapshot : MemberSet) (m : LinkId) : MemberResult :=
  if !setHas snapshot m then .none
  else if (s.member m).health.inService then .pending
  else .fenced

/-- The slot as opening writes it (R22). -/
def State.openedSlot (s : State) (t : Slot) (d : AdmissionData) : Slot :=
  { t with
    state := .opened
    admission := some { seq := d.seq, epoch := d.epoch, quorum := d.quorum, snapshot := d.effective
                        mode := openMode t.waitAll d.mode, deadline := deadlineAt s.now d.orderDeadline }
    results := Vector.ofFn fun m => s.openingResult d.effective m
    firstTry := 0xFF
    queued := setOf fun m => s.openingResult d.effective m == .pending
    deadlineRunning := true }

/-- The data entries of an opening (R23), by ascending link number, an order that R23 does not give (log 28). -/
def State.sendEntries (s : State) (i : SlotId) (g : GroupId) (seq : Seq) (ms : List LinkId) : State :=
  ms.foldl (fun s m => s.send (.dataEntry m i g seq)) s

/-- A slot whose admission has been asked for: LOADING with its check word recorded (R21). -/
def Slot.awaitsAdmission (t : Slot) : Bool := t.state == .loading && t.checkWord.isSome

/-- A granted admission at the window; one for a slot that is not waiting for it is discarded (R21, R22). -/
def State.openSlot (s : State) (i : SlotId) (d : AdmissionData) : State :=
  match s.slot i with
  | none => s
  | some t =>
    if t.awaitsAdmission then
      let u := s.openedSlot t d
      ((s.setSlot i (some u)).sendEntries i t.group d.seq u.pendingLinks).afterChange i
    else s

/-- The outcome of a refused admission (R11, R24). -/
def AdmissionRefusal.outcome : AdmissionRefusal → OrderOutcome
  | .noQuorum => .noQuorum
  | .seqExhausted => .seqExhausted

/-- A refused admission at the window (R21, R24). -/
def State.refuseSlot (s : State) (i : SlotId) (why : AdmissionRefusal) : State :=
  match s.slot i with
  | none => s
  | some t => if t.awaitsAdmission then s.reportPoint i (AdmissionRefusal.outcome why) else s

/-! ### Reports from the link engines (R28 to R31, R23) -/

/-- An ACK report (R28). -/
def State.takeAck (s : State) (i : SlotId) (g : GroupId) (seq : Seq) (m : LinkId) : State :=
  match s.matchSlot i g seq with
  | none => s
  | some t =>
    if t.result m = .pending then
      ((s.setSlot i (some (t.setResult m .acked))).send (.cleanStreakNotice m (setHas t.firstTry m))).afterChange i
    else s

/-- The slot when a retransmission is granted to a member (R29). -/
def Slot.grantRetry (t : Slot) (m : LinkId) : Slot :=
  { t with retries := t.retries.set m.val (t.retries[m.val] + 1), firstTry := setErase t.firstTry m
           queued := setInsert t.queued m }

/-- A retry request (R29). -/
def State.takeRetryRequest (s : State) (i : SlotId) (g : GroupId) (seq : Seq) (m : LinkId) (limit : Nat) : State :=
  match s.matchSlot i g seq with
  | none => s.send (.retryAnswer m i g seq false)
  | some t =>
    if t.result m = .pending then
      if t.retries[m.val] < limit then
        ((s.setSlot i (some (t.grantRetry m))).send (.retryAnswer m i g seq true)).send (.retryNotice m)
      else (s.send (.retryAnswer m i g seq false)).failMember i t m .lost
    else s.send (.retryAnswer m i g seq false)

/-- A report of a failure that is not retried: NACK FULL, NACK STALE_EPOCH or LINK_DOWN (R30, R31). -/
def State.takeFailure (s : State) (i : SlotId) (g : GroupId) (seq : Seq) (m : LinkId) (cause : FenceCause) : State :=
  match s.matchSlot i g seq with
  | none => s
  | some t => if t.result m = .pending then s.failMember i t m cause else s

/-- A left-queue notice clears the member's queued flag (R23, R42). -/
def State.takeLeftQueue (s : State) (i : SlotId) (g : GroupId) (seq : Seq) (m : LinkId) : State :=
  match s.matchSlot i g seq with
  | none => s
  | some t =>
    let s := s.setSlot i (some { t with queued := setErase t.queued m })
    match t.state with
    | .trailing => s.afterChange i
    | .loading | .opened | .reporting => s

/-! ### Fences and the store (R33 to R35) -/

/-- A fence's marking changes a slot: it is OPEN, REPORTING or TRAILING and the member is PENDING (R33). -/
def State.marks (s : State) (m : LinkId) (i : SlotId) : Bool :=
  match s.slot i with
  | none => false
  | some t => t.state != .loading && t.result m == .pending

/-- A fence's slot marking: one event over all slots, then each changed slot is evaluated or checked (R33), in ascending
slot number, an order that R33 does not give (log 39). -/
def State.markFenced (s : State) (m : LinkId) : State :=
  let changed := allSlots.filter (s.marks m)
  let s := changed.foldl (fun s i => s.modSlot i fun t => t.setResult m .fenced) s
  changed.foldl State.afterChange s

/-- A poisoning report (R34, R35). -/
def State.poison (s : State) (i : SlotId) (g : GroupId) (seq : Seq) : State :=
  match s.matchSlot i g seq with
  | none => s
  | some t =>
    if t.poisoned then s
    else
      let u := { t.failPending .poison with poisoned := true }
      let s := (s.setSlot i (some u)).reportFailures t.pendingLinks .poison
      match t.state with
      | .opened => s.reportPoint i .storeFault
      | .loading | .reporting | .trailing => s.afterChange i

/-! ### Order deadline (R38) and report write end (R41) -/

/-- Expiry of a slot's order deadline timer (R38). -/
def State.deadlineExpired (s : State) (i : SlotId) : State :=
  match s.slot i with
  | none => s
  | some t =>
    match t.admission with
    | none => s
    | some a =>
      if t.deadlineRunning then
        let s := s.reachTime a.deadline
        let u := { t.failPending .deadline with deadlineRunning := false }
        let s := (s.setSlot i (some u)).reportFailures t.pendingLinks .deadline
        if t.pendingLinks.isEmpty then s
        else match t.state with
          | .opened => s.reportPoint i .deadline
          | .loading | .reporting | .trailing => s.afterChange i
      else s

/-- The chain reader's report write end (R41). -/
def State.writeEnded (s : State) (i : SlotId) : State :=
  match s.slot i with
  | none => s
  | some t =>
    match t.state with
    | .reporting => if t.settled then s.retire i else s.setSlot i (some { t with state := .trailing })
    | .loading | .opened | .trailing => s

/-- A slot that is not FREE is freed (R46). -/
def State.freeIfUsed (i : SlotId) (s : State) : State :=
  match s.slot i with
  | none => s
  | some t => s.freeSlot i t

/-- HALT frees every slot that is not FREE in ascending number, with no report and no release (R46). -/
def State.freeAllSlots (s : State) : State := forSlots State.freeIfUsed s

end Sys2Proof.Machine
end

