-- ==== Sys2Proof/Machine/Loader.lean ====
section
/-! DEFINITION. The payload store's loader (R53 to R58) and its parity faults (R59, R60). -/

namespace Sys2Proof.Machine

/-- The length of piece `k` of a payload (R54). -/
def pieceLength (length k : Nat) : Nat :=
  if k + 1 < blocksNeeded length then Config.blockBytes else length - Config.blockBytes * (blocksNeeded length - 1)

/-- The read of piece `k` of a slot's payload (R54). -/
def Slot.pieceRequest (t : Slot) (k : Nat) : MemRequest :=
  readRequest .piece (t.payloadAddr + BitVec.ofNat 64 (Config.blockBytes * k)) (pieceLength t.length k)

/-- The loader's queue and the load of its head. -/
def State.setLoad (s : State) (queue : List SlotId) (load : Option Load) : State :=
  s.modStore fun p => { p with loaderQueue := queue, load := load }

/-- The load of the head of the loader queue begins with its first piece; a refused piece is a load fault, after which
the next slot's load begins (R53, R54, R57, R101). While a piece read that HALT gave up is still in flight, the new read
waits at the arbiter behind it (log 12). -/
def State.beginLoads : List SlotId → State → State
  | [], s => s.setLoad [] none
  | i :: rest, s =>
    match s.slot i with
    | none => State.beginLoads rest s
    | some t =>
      if (t.pieceRequest 0).refused then State.beginLoads rest ((s.setLoad rest none).reportPoint i .hostReadFault)
      else (s.setLoad (i :: rest) (some { piece := 0, crc := crcInit })).ask (t.pieceRequest 0)

/-- A load fault of the head slot (R57, R25). -/
def State.loadFault (s : State) (i : SlotId) (rest : List SlotId) : State :=
  State.beginLoads rest ((s.setLoad rest none).reportPoint i .hostReadFault)

/-- Load end: the check word goes to the window, which asks for admission; the next load begins (R21, R56). -/
def State.loadEnd (s : State) (i : SlotId) (t : Slot) (rest : List SlotId) (crc : BitVec 32) : State :=
  State.beginLoads rest
    (((s.setLoad rest none).setSlot i (some { t with checkWord := some (crcFinish crc) })).send
      (.admissionRequest i t.group))

/-- A piece read has completed without error (R54): the piece is written and folded, and the next piece is asked for,
or the load ends. -/
def State.pieceArrived (s : State) (i : SlotId) (rest : List SlotId) (t : Slot) (l : Load)
    (piece : List Byte) : State :=
  let s := match t.blocks[l.piece]? with
    | none => s
    | some b => s.modStore fun p => p.writeBlock b piece
  let crc := crcFold l.crc piece
  if l.piece + 1 < blocksNeeded t.length then
    if (t.pieceRequest (l.piece + 1)).refused then s.loadFault i rest
    else (s.setLoad (i :: rest) (some { piece := l.piece + 1, crc := crc })).ask (t.pieceRequest (l.piece + 1))
  else s.loadEnd i t rest crc

/-- Completion of a payload piece read (R54, R57, R58); a read that HALT overtook is discarded. -/
def State.pieceDone (s : State) (bytes : Option (List Byte)) : State :=
  match s.completing .piece with
  | none => s
  | some r =>
    let s := s.freeResource
    if r.abandoned then s
    else match s.store.loaderQueue, s.store.load with
      | i :: rest, some l =>
        match s.slot i, bytes with
        | some t, some bs => s.pieceArrived i rest t l (padTo r.len bs)
        | some _, none => s.loadFault i rest
        | none, _ => s
      | _, _ => s

/-- HALT empties the loader queue and ends the load in progress (R58). -/
def State.dropLoads (s : State) : State := s.setLoad [] none

/-- A slot joins the tail of the loader queue; on an empty queue its load begins at once (R51, R53). -/
def State.joinLoader (s : State) (i : SlotId) : State :=
  match s.store.loaderQueue with
  | [] => State.beginLoads [i] s
  | _ :: _ => s.modStore fun p => { p with loaderQueue := p.loaderQueue ++ [i] }

/-- The words of a payload that a frame read finds newly disagreeing with their parity (R59, log 7). -/
def PayloadStore.upset (p : PayloadStore) (words upsets : List Nat) : PayloadStore :=
  { p with badWords := (upsets.filter words.contains).foldl insertWord p.badWords }

/-- A parity failure found in a block by a frame read for a slot (R60). -/
def State.parityFailure (s : State) (b : BlockId) (i : SlotId) (g : GroupId) (seq : Seq) : State :=
  let known := s.store.quarantine.contains b
  let s := (if known then s else s.modStore fun p => { p with quarantine := p.quarantine ++ [b] }).raise .storeFault
  let s := s.send (.poisoningReport i g seq)
  if known then s else s.send .quarantineNotice

end Sys2Proof.Machine
end

