-- ==== Sys2Proof/Machine/RunControl.lean ====
section
/-! DEFINITION. Run control's quiet condition (R172). The commands are in Commands.lean. -/

namespace Sys2Proof.Machine

/-- No member has a readmit in flight and no link engine a NOTE in flight (R172). -/
def State.noExchange (s : State) : Bool :=
  allLinks.all fun m => (s.member m).readmit.isNone && (s.link m).note.isNone

/-- The four conditions of R172. -/
def State.partQuiet (s : State) : Bool := s.slotsInUse == 0 && s.chain.quiet && s.noExchange

/-- The run state reaches QUIESCED, HALTED or STOPPED and RUN_CHANGE is raised (R168). -/
def State.enterRun (s : State) (r : RunState) : State := (s.modPort fun p => { p with run := r }).raise .runChange

/-- A report that may complete a QUIESCE is acted on in QUIESCING alone (R172). -/
def State.testQuiet (s : State) : State :=
  if s.port.run = .quiescing ∧ s.partQuiet then s.enterRun .quiesced else s

end Sys2Proof.Machine
end

