-- ==== Sys2Proof/Machine/Membership.lean ====
section
/-! DEFINITION. The membership unit (chapter 8): streaks, fencing, READMIT. -/

namespace Sys2Proof.Machine

/-! ### Streaks (R143, R144) -/

/-- A member's health changes: MEMBER_CHANGE is raised (R142). -/
def State.changeMember (s : State) (m : LinkId) (r : Member) : State := (s.setMember m r).raise .memberChange

/-- A retry notice (R143). -/
def State.takeRetryNotice (s : State) (m : LinkId) : State :=
  let r := s.member m
  match r.health with
  | .active => s.changeMember m { r with health := .suspect, streak := 0 }
  | .suspect => s.setMember m { r with streak := 0 }
  | .fenced => s

/-- A clean-streak notice (R144). -/
def State.takeStreak (s : State) (m : LinkId) (clean : Bool) : State :=
  let r := s.member m
  match r.health with
  | .suspect =>
    if clean then
      if r.streak + 1 < Config.cleanStreak then s.setMember m { r with streak := r.streak + 1 }
      else s.changeMember m { r with health := .active, streak := 0 }
    else s.setMember m { r with streak := 0 }
  | .active | .fenced => s

/-! ### Fencing (R145, R146) -/

/-- A fence request: a member in service is fenced with the cause and the three requests are sent in order; a FENCED
member is left as it is (R145, R146). -/
def State.fence (s : State) (m : LinkId) (cause : FenceCause) : State :=
  let r := s.member m
  if r.health.inService then
    (((s.changeMember m { r with health := .fenced, streak := 0, cause := some cause }).send (.removalRequest m)).send
      (.slotMarking m)).send (.purgeOnFence m)
  else s

/-! ### READMIT (R149 to R154) -/

/-- The reply timeout: 4 probe intervals from now, at the interval in force (R137, R149). -/
def State.replyDeadline (s : State) : Nat := s.now + Config.replyIntervals * s.notices.probeInterval

/-- The first three checks of R149, in order. -/
def State.readmitRefusal (s : State) (m : LinkId) : Option OrderOutcome :=
  if (s.link m).state ≠ .up then some .linkNotUp
  else if (s.member m).health.inService then some .notFenced
  else if (s.member m).readmit.isSome ∨ (s.link m).note.isSome then some .memberBusy
  else none

/-- The result area of a READMIT refused at validation or dispatch (R76). -/
def refusedReadmit : ResultArea := .readmit 0 0 none []

/-- The groups of an offer. -/
def offerGroups (offer : List OfferEntry) : GroupSet := groupSetOf (offer.map OfferEntry.group)

/-- An accepted READMIT: the groups are frozen, the readmit in flight is created, REJOIN-pending is set and the reply
timer starts (R9, R149). -/
def State.acceptReadmit (s : State) (m : LinkId) (order : Addr) (tag : BitVec 32) (offer : List OfferEntry) : State :=
  let s := s.setFrozen offer true
  let s := s.modMember m fun r =>
    { r with readmit := some { order := order, tag := tag, offer := offer, sent := false }
             replyTimer := some s.replyDeadline }
  s.modLink m fun l => { l with rejoinPending := true }

/-- A dispatched READMIT for member m (R149). -/
def State.dispatchReadmit (s : State) (m : LinkId) (order : Addr) (tag : BitVec 32) : State :=
  match s.readmitRefusal m with
  | some outcome => s.reportOrder order outcome refusedReadmit
  | none =>
    match s.offerFor m with
    | none => s.reportOrder order .groupBusy refusedReadmit
    | some offer => s.acceptReadmit m order tag offer

/-- The readmit in flight becomes absent and the reply timer stops (R152, R153). -/
def State.clearReadmit (s : State) (m : LinkId) : State :=
  s.modMember m fun r => { r with readmit := none, replyTimer := none }

/-- The end of a READMIT that does not end OK (R153). -/
def State.endReadmit (s : State) (m : LinkId) (x : Readmit) (outcome : OrderOutcome) (fence : Bool)
    (deciding : Option GroupId) (lastApplied : List Seq) : State :=
  ((((s.clearReadmit m).send (.fencePendingRequest m fence)).send (.readmitEnding m false x.offer)).reportOrder x.order
    outcome (.readmit (offerGroups x.offer) 0 deciding lastApplied)).testQuiet

/-- A reported value is one of the required values of its group (R151). -/
def valueMet (e : OfferEntry) (v : Seq) : Bool :=
  (e.next != 0 && v == e.next - 1) || (e.atBase && v == Config.noneApplied)

/-- The outcome that a deciding group's reported value gives (R151). -/
def valueVerdict (e : OfferEntry) (v : Seq) : OrderOutcome :=
  if v = Config.noneApplied ∨ v.toNat + 1 < e.next.toNat then .memberBehind else .memberAhead

/-- The deciding group of an accepting reply with its outcome, if a group does not match (R151). -/
def judgeEntries : List (OfferEntry × Seq) → Option (GroupId × OrderOutcome)
  | [] => none
  | (e, v) :: rest => if valueMet e v then judgeEntries rest else some (e.group, valueVerdict e v)

/-- The window W of a reply: bits 15 to 0 of the parameter word (11.3). -/
def replyWindow (f : Frame) : Nat := (f.param.extractLsb' 0 16).toNat

/-- The decision of a REJOIN_REPLY, or the revision of a HELLO_REPLY: bits 31 to 16 of the parameter word (11.3). -/
def replyHigh (f : Frame) : Nat := (f.param.extractLsb' 16 16).toNat

/-- A W that a member may offer (R107, R112). -/
def goodWindow (w : Nat) : Bool := decide (1 ≤ w) && decide (w ≤ Config.maxWindow)

/-- A REJOIN_REPLY that R181 or the first step of R150 finds malformed. -/
def badRejoinReply (f : Frame) : Bool :=
  f.body.length % 8 != 0 || decide (1 < replyHigh f) || (replyHigh f == 1 && !goodWindow (replyWindow f))

/-- The entries of a reply answer the offer place by place (R150 step 3). -/
def answersOffer (offer : List OfferEntry) (entries : List (Byte × Seq)) : Bool :=
  (offer.map fun e => BitVec.ofNat 8 e.group.val) == entries.map Prod.fst

/-- A readmit in flight matches a reply (R150 step 2). -/
def Readmit.matchesReply (x : Readmit) (f : Frame) : Bool := x.sent && x.tag == f.sequence

/-- Expiry of a READMIT's reply timer (R153). -/
def State.replyExpired (s : State) (m : LinkId) : State :=
  match (s.member m).replyTimer, (s.member m).readmit with
  | some t, some x => (s.reachTime t).endReadmit m x .noReply true none []
  | some t, none => (s.reachTime t).clearReadmit m
  | none, _ => s

/-- A fall of the link ends a READMIT in flight with NO_REPLY (R118, R153). -/
def State.fallReadmit (s : State) (m : LinkId) : State :=
  match (s.member m).readmit with
  | none => s
  | some x => s.endReadmit m x .noReply false none []

/-- HALT drops a readmit in flight without a report (R154). -/
def State.dropReadmit (m : LinkId) (s : State) : State :=
  match (s.member m).readmit with
  | none => s
  | some x => (s.clearReadmit m).send (.readmitEnding m false x.offer)

/-- A member record after a soft reset's initialization (R156). -/
def Member.softReset (r : Member) : Member :=
  { r with health := .fenced, streak := 0, readmit := none, replyTimer := none }

end Sys2Proof.Machine
end

