-- ==== Sys2Proof/Machine/LinkStates.lean ====
section
/-! DEFINITION. Link states, training, probing and the fall to DOWN (R114 to R119), the queues' purges (R138, R139), and
NOTE exchanges (R137). -/

namespace Sys2Proof.Machine

/-! ### Builds -/

/-- Abandon what is being built when a test holds of it (R127, R133, R136, R138). -/
def LinkEngine.abandonBuild (l : LinkEngine) (p : Build → Bool) : LinkEngine :=
  match l.build with
  | none => l
  | some b => if p b then { l with build := none } else l

/-- A build of an EPOCH for a group. -/
def Build.isEpochOf (g : GroupId) : Build → Bool
  | .control (.epoch k) => k == g
  | .control _ | .data _ => false

/-- A build of any EPOCH. -/
def Build.isEpoch : Build → Bool
  | .control (.epoch _) => true
  | .control _ | .data _ => false

/-- A build of a WRITE. -/
def Build.isData : Build → Bool
  | .data _ => true
  | .control _ => false

/-- A build of a WRITE of a group. -/
def Build.isDataOf (g : GroupId) : Build → Bool
  | .data e => e.group == g
  | .control _ => false

/-- A build of one control frame. -/
def Build.isControl (c : ControlFrame) : Build → Bool
  | .control d => d == c
  | .data _ => false

/-! ### NOTE (R137) -/

/-- A NOTE ends: its timer stops, its flag clears and its report is queued; the end is reported to run control. -/
def State.endNote (s : State) (m : LinkId) (n : NoteInFlight) (outcome : OrderOutcome) (result : ResultArea) : State :=
  ((s.modLink m fun l =>
    { l.abandonBuild (Build.isControl .note) with note := none, noteTimer := none, notePending := false }).reportOrder
      n.order outcome result).testQuiet

/-- Expiry of the NOTE timer. -/
def State.noteExpired (s : State) (m : LinkId) : State :=
  match (s.link m).noteTimer, (s.link m).note with
  | some t, some n => (s.reachTime t).endNote m n .noReply .zero
  | some t, none => (s.reachTime t).modLink m fun l => { l with noteTimer := none }
  | none, _ => s

/-- A fall of the link ends a NOTE in flight with NO_REPLY. -/
def State.fallNote (s : State) (m : LinkId) : State :=
  match (s.link m).note with
  | none => s
  | some n => s.endNote m n .noReply .zero

/-- A NOTE_REPLY on an UP link; a body above 32 bytes is malformed (R113, R137, R181). -/
def State.takeNoteReply (s : State) (m : LinkId) (f : Frame) : State :=
  if 32 < f.body.length then s
  else match (s.link m).note with
    | none => s.raise .stray
    | some n => if n.sent ∧ n.tag = f.sequence then s.endNote m n .ok (.note f.body) else s.raise .stray

/-! ### Training (R115, R116) -/

/-- A link's state changes: LINK_CHANGE is raised (R114, R121). -/
def State.changeLink (s : State) (m : LinkId) (l : LinkEngine) : State := (s.setLink m l).raise .linkChange

/-- One probe interval from now (R71). -/
def State.probeDeadline (s : State) : Nat := s.now + s.notices.probeInterval

/-- Entry to TRAINING from DOWN when the signal is present and the coordinator tag is set (R115). -/
def State.tryTraining (s : State) (m : LinkId) : State :=
  let l := s.link m
  if l.state = .down ∧ l.signal ∧ s.notices.coordinatorTag ≠ 0 then
    s.changeLink m { l with state := .training, helloPending := true, helloTimer := some s.probeDeadline }
  else s

/-- A TRAINING link falls to DOWN on loss of signal (R116); a HELLO being built or sent goes with it (log 21). -/
def State.leaveTraining (s : State) (m : LinkId) : State :=
  s.changeLink m
    { s.link m with state := .down, helloTimer := none, helloPending := false, build := none, sending := none }

/-- Entry to UP with the W of the HELLO_REPLY (R117). -/
def State.enterUp (s : State) (m : LinkId) (w : Nat) : State :=
  (s.changeLink m
    { (s.link m).abandonBuild (Build.isControl .hello) with
      state := .up, w := w, credits := w, outstanding := [], gates := Vector.replicate 16 Gate.idle
      helloTimer := none, helloPending := false, heard := false, unanswered := 0
      silenceTimer := some s.probeDeadline }).markDirty

/-- A HELLO_REPLY that R107 or R181 finds malformed. -/
def badHelloReply (f : Frame) : Bool :=
  !f.body.isEmpty || replyHigh f != Config.protocolRevision || !goodWindow (replyWindow f)

/-- Expiry of the HELLO timer (R116). -/
def State.helloExpired (s : State) (m : LinkId) : State :=
  match (s.link m).helloTimer with
  | none => s
  | some t =>
    let s := s.reachTime t
    s.modLink m fun l => { l with helloPending := true, helloTimer := some s.probeDeadline }

/-! ### Purges (R138, R139) -/

/-- The left-queue notice of a data entry (R126). -/
def DataEntry.notice (m : LinkId) (e : DataEntry) : Instr := .leftQueueNotice e.slot e.group e.seq m

/-- A left-queue notice for each of some entries, in queue order, an order that R126 does not give (log 28). -/
def State.sendNotices (s : State) (m : LinkId) (es : List DataEntry) : State :=
  es.foldl (fun s e => s.send (e.notice m)) s

/-- A purge on fence (R138). -/
def State.purge (s : State) (m : LinkId) : State :=
  let l := s.link m
  let up := l.state == .up
  let s := s.sendNotices m l.queue
  s.setLink m
    { (l.abandonBuild fun b => b.isData || b.isEpoch) with
      queue := [], gates := Vector.replicate 16 Gate.idle
      outstanding := if up then l.outstanding.map fun o => { o with ignored := true } else l.outstanding
      fencePending := l.fencePending || up }

/-- What a fall reports of one entry: slot, group and sequence. -/
abbrev SlotKey := SlotId × GroupId × Seq

/-- One key for each slot, the first standing for it (R139 step 1, log 29). -/
def firstPerSlot : List SlotId → List SlotKey → List SlotKey
  | _, [] => []
  | seen, k :: rest => if seen.contains k.1 then firstPerSlot seen rest else k :: firstPerSlot (k.1 :: seen) rest

/-- The slots of which a link engine holds a data entry or an outstanding entry (R31, R139). The order among them is the
model's choice: the data queue's slots in queue order, then the outstanding list's (log 28). -/
def LinkEngine.heldSlots (l : LinkEngine) : List SlotKey :=
  firstPerSlot [] ((l.queue.map fun e => (e.slot, e.group, e.seq))
    ++ l.outstanding.map fun o => (o.slot, o.group, o.seq))

/-- The LINK_DOWN reports of a fall (R118, R139). -/
def State.sendLinkDown (s : State) (m : LinkId) (ks : List SlotKey) : State :=
  ks.foldl (fun s k => s.send (.linkDownReport k.1 k.2.1 k.2.2 m)) s

/-- A link engine after a fall to DOWN, its NOTE still to be ended (R118, R139). -/
def LinkEngine.fallen (l : LinkEngine) : LinkEngine :=
  { l with
    state := .down, silenceTimer := none, heard := false, unanswered := 0, helloPending := false
    probePending := false, fencePending := false, rejoinPending := false, notePending := false
    queue := [], build := none, outstanding := [], credits := 0, w := 0
    gates := Vector.replicate 16 Gate.idle, sending := none }

/-- The fall of an UP link to DOWN, and training again while the signal is present (R115, R118, R139). That the LINK_DOWN
reports go before the left-queue notices is the model's choice (R31, log 28). -/
def State.fall (s : State) (m : LinkId) : State :=
  let l := s.link m
  let s := (s.sendLinkDown m l.heldSlots).sendNotices m l.queue
  let s := (s.changeLink m l.fallen).send (.fenceRequest m .linkDown)
  (((s.fallNote m).fallReadmit m).markDirty).tryTraining m

/-! ### Signal (R119) and silence (R117) -/

/-- A signal-present report (R119). -/
def State.signalOn (s : State) (m : LinkId) : State :=
  (s.modLink m fun l => { l with signal := true }).tryTraining m

/-- A signal-absent report (R119). -/
def State.signalOff (s : State) (m : LinkId) : State :=
  let s := s.modLink m fun l => { l with signal := false }
  match (s.link m).state with
  | .unbound | .down => s
  | .training => s.leaveTraining m
  | .up => s.fall m

/-- Expiry of the silence timer (R117). -/
def State.silenceExpired (s : State) (m : LinkId) : State :=
  match (s.link m).silenceTimer with
  | none => s
  | some t =>
    let s := s.reachTime t
    let l := { s.link m with silenceTimer := some s.probeDeadline }
    if l.heard then s.setLink m { l with heard := false }
    else if l.unanswered < Config.probeLimit then s.setLink m { l with probePending := true }
    else s.fall m

end Sys2Proof.Machine
end

