-- ==== Sys2Proof/Machine/Walk.lean ====
section
/-! DEFINITION. The chain reader's walk: fetch, link wait and holds (R84 to R91). The claim is in OrderOps.lean. -/

namespace Sys2Proof.Machine

/-! ### Asking for the walk's reads -/

/-- The walk asks for a request; a refusal is a read fault (R84, R101), made in the event that asks and not when the
resource is free (log 10). -/
def State.askWalk (s : State) (step : WalkStep) (r : MemRequest) : State :=
  let s := s.modChain fun c => { c with walk := step }
  if r.refused then s.chainFault else s.ask r

/-- Ask for a read of the whole record at an address, which becomes the fetch address (R84). -/
def State.readRecordAt (s : State) (a : Addr) : State :=
  (s.modChain fun c => { c with state := .fetching, fetchAddr := some a }).askWalk .record
    (readRequest .record a Config.recordBytes)

/-- All 64 report places are reserved (R84). -/
def ChainReader.full (c : ChainReader) : Bool := decide (Config.reportPlaces ≤ c.reserved)

/-- Take a report place (R84, R95). -/
def State.takePlace (s : State) : State := s.modChain fun c => { c with reserved := c.reserved + 1 }

/-- Start a fetch: take a place and ask for the first read, or wait in FETCHING for a place (R84). -/
def State.beginFetch (s : State) : State :=
  let s := s.modChain fun c => { c with state := .fetching }
  if s.chain.full then s.modChain fun c => { c with walk := .awaitFetch }
  else if s.chain.anchor then
    s.takePlace.askWalk .nextField (readRequest .nextField (s.chain.walkPointer + 8) 8)
  else s.takePlace.readRecordAt s.chain.walkPointer

/-- The conditions of R84 for the walk to start a fetch from IDLE. -/
def State.fetchDue (s : State) : Bool :=
  s.chain.state == .idle && s.port.run == .running && decide (0 < s.chain.pendingPosts)

/-- Start a fetch if R84's conditions hold. -/
def State.fetchIfDue (s : State) : State := if s.fetchDue then s.beginFetch else s

/-- A next field that is misaligned or at or above 2^48 (R84); all 64 bits are judged (R180). -/
def badNextField (v : Addr) : Bool := v.toNat % Config.recordBytes != 0 || decide (Config.addressLimit ≤ v.toNat)

/-! ### The link wait (R90) -/

/-- The walk's place is given back (R84). -/
def State.giveBackPlace (s : State) : State := s.modChain ChainReader.freePlace

/-- The 8 us link-wait timer starts. -/
def State.startLinkWaitTimer (s : State) : State :=
  s.modChain fun c => { c with walk := .idle, linkWaitTimer := some (s.now + Config.retryMicros) }

/-- Enter LINK_WAIT (R90). -/
def State.enterLinkWait (s : State) (way : WaitFor) : State :=
  (s.giveBackPlace.modChain fun c =>
    { c with state := .linkWait, linkWaitCount := 0, waitingFor := way }).startLinkWaitTimer

/-- The address a link wait's re-read of a record reads; the record it reached (R90). -/
def ChainReader.fetchTarget (c : ChainReader) : Addr := c.fetchAddr.getD c.walkPointer

/-- The re-read of a link wait: the anchor's next field, or the record (R90). -/
def ChainReader.reReadRequest (c : ChainReader) : MemRequest :=
  match c.waitingFor with
  | .link => readRequest .reRead (c.walkPointer + 8) 8
  | .post => readRequest .reRead c.fetchTarget Config.recordBytes

/-- Take a place and issue the re-read, or stay in LINK_WAIT until a place is free (R90). -/
def State.beginReRead (s : State) : State :=
  if s.chain.full then s.modChain fun c => { c with walk := .awaitReRead }
  else s.takePlace.askWalk .reRead s.chain.reReadRequest

/-- Expiry of the link-wait timer (R90). -/
def State.linkWaitExpired (s : State) : State :=
  match s.chain.linkWaitTimer with
  | none => s
  | some t => ((s.reachTime t).modChain fun c => { c with linkWaitTimer := none }).beginReRead

/-- A re-read found no progress: another 8 us, or CHAIN_FAULT after the 16th (R90). -/
def State.waitOn (s : State) : State :=
  if s.chain.linkWaitCount < Config.maxReReads then s.giveBackPlace.startLinkWaitTimer else s.chainFault

/-- The walk goes on after a link wait: the count is cleared (R90). -/
def State.endLinkWait (s : State) : State := s.modChain fun c => { c with state := .fetching, linkWaitCount := 0 }

/-! ### Holds (R87, R91) -/

/-- The lowest-numbered FREE slot (R20). -/
def State.freeSlot? (s : State) : Option SlotId := allSlots.find? fun i => (s.slot i).isNone

/-- A group is frozen (R1); an UNDEFINED group is not. -/
def State.groupFrozen (s : State) (g : GroupId) : Bool :=
  match s.group g with
  | none => false
  | some r => r.frozen

/-- The record names a frozen group (R87). -/
def State.namesFrozen (s : State) (r : Record) : Bool :=
  match orderKind r.kind with
  | some .commit | some .groupSet =>
    match r.group? with
    | none => false
    | some g => s.groupFrozen g
  | some .barrier =>
    match r.barrierTarget with
    | none => false
    | some .all => allGroups.any s.groupFrozen
    | some (.group g) => s.groupFrozen g
  | _ => false

/-- Whether one hold's condition applies to a fetched POSTED record (R87, R91). -/
def State.holdApplies (s : State) (r : Record) : HeldReason → Bool
  | .slot => orderKind r.kind == some .commit && s.freeSlot?.isNone
  | .frozen => s.namesFrozen r
  | .store => orderKind r.kind == some .commit && s.store.fit r.payloadLength == .wait
  | .none | .barrier => false

/-- The first hold that applies, in R87's order. -/
def State.holdFor (s : State) (r : Record) : HeldReason :=
  if s.holdApplies r .slot then .slot
  else if s.holdApplies r .frozen then .frozen
  else if s.holdApplies r .store then .store
  else .none

/-- Judge the holds on a fetched POSTED record: HELD with its place given back, or the TAKEN write (R87, R88). -/
def State.holdOrTake (s : State) (r : Record) : State :=
  match s.holdFor r with
  | .none =>
    (s.modChain fun c => { c with state := .fetching }).askWalk .takenWrite
      (writeRequest .takenWrite s.chain.fetchTarget [stateTaken])
  | reason => s.giveBackPlace.modChain fun c => { c with state := .held, heldReason := reason, walk := .idle }

/-- Judge a record that has been read whole: it is kept as the fetched copy (R86). -/
def State.judgeRecord (s : State) (r : Record) : State :=
  let s := s.modChain fun c => { c with fetched := some r }
  if r.state = statePosted then s.holdOrTake r else s.enterLinkWait .post

/-- A fresh fetch of the held record after its hold has cleared (R91). -/
def State.refetch (s : State) : State :=
  let s := s.modChain fun c => { c with state := .fetching, heldReason := .none }
  if s.chain.full then s.modChain fun c => { c with walk := .awaitRefetch }
  else s.takePlace.readRecordAt s.chain.fetchTarget

/-- The re-check of a hold on an event of its reason (R91). -/
def State.reCheck (s : State) (reason : HeldReason) : State :=
  if s.chain.state = .held ∧ s.chain.heldReason = reason then
    match s.chain.fetched with
    | none => s
    | some r => if s.holdApplies r reason then s else s.refetch
  else s

/-- A report place has been freed: what waited for one begins (R84, R90, R91, R96). -/
def State.restartWaiting (s : State) : State :=
  match s.chain.walk with
  | .awaitFetch => s.beginFetch
  | .awaitRefetch => s.refetch
  | .awaitReRead => s.beginReRead
  | .idle | .nextField | .record | .takenWrite | .reRead | .dispatching => s

/-! ### Completions of the walk's reads -/

/-- The walk's own completion of a kind: the state with the resource free, unless nothing of the kind is in flight, or
the read was given up and its result is discarded (R98, R171). -/
def State.walkCompletion (s : State) (kind : RequestKind) (act : State → State) : State :=
  match s.completing kind with
  | none => s
  | some r => if r.abandoned then s.freeResource else act s.freeResource

/-- Completion of the anchor's next-field read (R84). -/
def State.nextFieldDone (s : State) (value : Option Addr) : State :=
  s.walkCompletion .nextField fun s =>
    match value with
    | none => s.chainFault
    | some v =>
      if v = 0 then s.enterLinkWait .link
      else if badNextField v then s.chainFault
      else s.readRecordAt v

/-- Completion of a record read (R86). -/
def State.recordDone (s : State) (bytes : Option (List Byte)) : State :=
  s.walkCompletion .record fun s =>
    match bytes with
    | none => s.chainFault
    | some bs => s.judgeRecord (Record.ofBytes bs)

/-- A re-read of the anchor's next field, judged as the first read was (R90). -/
def State.reReadLink (s : State) (v : Addr) : State :=
  if v = 0 then s.waitOn
  else if badNextField v then s.chainFault
  else s.endLinkWait.readRecordAt v

/-- A re-read of the record, judged as the first read was (R90). -/
def State.reReadPost (s : State) (r : Record) : State :=
  let s := s.modChain fun c => { c with fetched := some r }
  if r.state = statePosted then s.endLinkWait.holdOrTake r else s.waitOn

/-- Completion of a link-wait re-read (R90). -/
def State.reReadDone (s : State) (bytes : Option (List Byte)) : State :=
  s.walkCompletion .reRead fun s =>
    let s := s.modChain fun c => { c with linkWaitCount := c.linkWaitCount + 1 }
    match bytes with
    | none => s.chainFault
    | some bs =>
      match s.chain.waitingFor with
      | .link => s.reReadLink (BitVec.ofNat 64 (ofLE (slice bs 0 8)))
      | .post => s.reReadPost (Record.ofBytes bs)

/-! ### Going on after a dispatch (R88) -/

/-- The walk goes on when a dispatch has been taken (R83, R88, R89). -/
def State.goOn (s : State) : State :=
  let s := s.modChain fun c => { c with walk := .idle }
  if s.chain.faultDue then s.modChain fun c => { c with state := .faulted, faultDue := false }
  else if s.chain.state = .faulted ∨ s.chain.state = .stopped then s
  else if s.chain.heldBarrier.isSome then s.modChain fun c => { c with state := .held }
  else (s.modChain fun c => { c with state := .idle }).fetchIfDue

/-! ### The report of an EXCLUDE (R66, R148) -/

/-- None of a fence's three requests for a member is in flight any longer. -/
def State.fenceTaken (s : State) (m : LinkId) : Bool :=
  !s.inFlight.contains (.removalRequest m) && !s.inFlight.contains (.slotMarking m)
    && !s.inFlight.contains (.purgeOnFence m)

/-- An EXCLUDE whose fence has taken effect is reported, and the walk that dispatched it goes on (R66, R148). -/
def State.excludeCheck (s : State) : State :=
  match s.chain.excluding with
  | none => s
  | some x =>
    if s.fenceTaken x.member then
      let s := (s.modChain fun c => { c with excluding := none }).endOrder x.order .ok
      if s.chain.walk = .dispatching then s.goOn else s
    else s

/-! ### The DONE write -/

/-- Completion without error of a report's DONE write: a DONE write that HALT overtook is counted and nothing more
(R96, R182). -/
def State.doneWritten (s : State) : State :=
  match s.completing .done with
  | none => s
  | some q =>
    let s := s.freeResource.tallyDone
    if q.abandoned then s
    else match s.chain.reports with
      | [] => s
      | r :: _ => (((s.dropHead.sendWriteEnd r).beginReport).restartWaiting).reportQuiet

end Sys2Proof.Machine
end

