-- ==== Sys2Proof/Machine/Readmission.lean ====
section
/-! DEFINITION. The membership unit's requests at the group table and the link engines, in the order they were sent
(R136, R146, R153), and the judgement of a REJOIN_REPLY (R150 to R152). -/

namespace Sys2Proof.Machine

/-! ### FENCE and REJOIN on the link (R136, R153) -/

/-- The W of an accepted REJOIN (R136, R152). -/
def State.handOverW (s : State) (m : LinkId) (w : Nat) : State :=
  if (s.link m).state = .up then
    (s.modLink m fun l => { l with w := w, credits := w, outstanding := [] }).markDirty
  else s

/-- The request to clear REJOIN-pending and, where asked, to set FENCE-pending (R136, R153). -/
def State.requestFence (s : State) (m : LinkId) (setFence : Bool) : State :=
  if (s.link m).state = .up then
    s.modLink m fun l =>
      { l.abandonBuild (Build.isControl .rejoin) with
        rejoinPending := false, fencePending := l.fencePending || setFence }
  else s

/-! ### Requests of the membership unit, in the order they were sent (R146) -/

/-- Take one request if it is one that the membership unit sends the group table or a link engine. -/
def State.takeMembership (s : State) (c : Instr) : State :=
  match c with
  | .removalRequest m => (s.taken c).removeMember m
  | .readmitEnding m accepted offer => (s.taken c).endReadmission m accepted offer
  | .purgeOnFence m => (s.taken c).purge m
  | .wHandOver m w => (s.taken c).handOverW m w
  | .fencePendingRequest m setFence => (s.taken c).requestFence m setFence
  | _ => s

/-- Take every request in flight that the membership unit has sent the group table and the link engines: a later
request of it to the same block, or a soft reset's initialization, comes after them (R146, R168). -/
def State.takeMembershipAll (s : State) : State := s.inFlight.foldl State.takeMembership s

/-! ### The judgement of a reply (R150 to R152) -/

/-- The end of a READMIT judged OK (R152): the member is ACTIVE, and the hand-over of its W and the accepted ending are
taken, after the membership unit's earlier requests, before the report is queued: the effective sets then hold the
member and the frozen flags are clear (R76, log 36). -/
def State.endReadmitOk (s : State) (m : LinkId) (x : Readmit) (w : Nat) (lastApplied : List Seq) : State :=
  let s := s.clearReadmit m
  let s := s.changeMember m { s.member m with health := .active, streak := 0 }
  let s := ((s.send (.wHandOver m w)).send (.readmitEnding m true x.offer)).takeMembershipAll.excludeCheck
  (s.reportOrder x.order .ok (.readmit (offerGroups x.offer) w none lastApplied)).testQuiet

/-- The judgement of a reply that has passed R150 (R151 to R153). -/
def State.judgeReply (s : State) (m : LinkId) (x : Readmit) (f : Frame) : State :=
  let values := (replyEntries f.body).map Prod.snd
  if replyHigh f = 0 then s.endReadmit m x .memberRefused false none []
  else match judgeEntries (x.offer.zip values) with
    | some (g, outcome) => s.endReadmit m x outcome true (some g) values
    | none => s.endReadmitOk m x (replyWindow f) values

/-- A REJOIN_REPLY handed to the membership unit (R150). -/
def State.takeRejoinReply (s : State) (m : LinkId) (f : Frame) : State :=
  if badRejoinReply f then s
  else match (s.member m).readmit with
    | none => s.raise .stray
    | some x =>
      if x.matchesReply f then
        if answersOffer x.offer (replyEntries f.body) then s.judgeReply m x f else s
      else s.raise .stray

end Sys2Proof.Machine
end

