-- ==== Sys2Proof/Machine/LinkEngines.lean ====
section
/-! DEFINITION. The link engines (chapter 7): data queue, the transmitter's choice and sends, credits, answers, gates,
FENCE and REJOIN on the link, received frames. -/

namespace Sys2Proof.Machine

/-! ### The data queue (R125) -/

/-- An entry that a retransmission of a group and sequence stands behind: marked, and not of its own group with a
higher sequence (R125, log 13). -/
def DataEntry.ahead (g : GroupId) (seq : Seq) (e : DataEntry) : Bool :=
  e.retransmission && !(e.group == g && decide (seq < e.seq))

/-- A retransmission takes its place in the queue (R125, log 13). -/
def placeRetransmission (e : DataEntry) (queue : List DataEntry) : List DataEntry :=
  let front := queue.takeWhile (DataEntry.ahead e.group e.seq)
  front ++ e :: queue.drop front.length

/-- The link takes data entries: it is UP and its member is in service (R125). -/
def State.takesEntries (s : State) (m : LinkId) : Bool :=
  (s.link m).state == .up && (s.member m).health.inService

/-- A new data entry from an opening (R125). -/
def State.takeDataEntry (s : State) (m : LinkId) (i : SlotId) (g : GroupId) (seq : Seq) : State :=
  if s.takesEntries m then
    s.modLink m fun l => { l with queue := l.queue ++ [{ slot := i, group := g, seq := seq, retransmission := false }] }
  else s.send (.leftQueueNotice i g seq m)

/-- The window's answer to a retry request (R130). After a HALT a RETRY finds the member FENCED and is refused with its
notice, and the answers that the window sends afterwards are GIVE_UP (R140). -/
def State.takeRetryAnswer (s : State) (m : LinkId) (i : SlotId) (g : GroupId) (seq : Seq) (retry : Bool) : State :=
  if retry then
    if s.takesEntries m then
      s.modLink m fun l =>
        { l with queue := placeRetransmission { slot := i, group := g, seq := seq, retransmission := true } l.queue }
    else s.send (.leftQueueNotice i g seq m)
  else s

/-- A data entry leaves the queue with its left-queue notice; a build of it is abandoned (R126, R127). -/
def State.leaveQueue (s : State) (m : LinkId) (e : DataEntry) : State :=
  (s.modLink m fun l => { l.abandonBuild (· == .data e) with queue := l.queue.erase e }).send (e.notice m)

/-! ### The choice of the next frame (R123) -/

/-- The lowest-numbered group whose EPOCH-pending flag is set. -/
def LinkEngine.epochDue (l : LinkEngine) : Option GroupId := allGroups.find? fun g => l.gates[g.val].epochPending

/-- The first control frame whose pending flag is set on an UP link, in R123's order. -/
def LinkEngine.controlDue (l : LinkEngine) : Option ControlFrame :=
  if l.probePending then some .probe
  else if l.fencePending then some .fence
  else if l.rejoinPending then some .rejoin
  else match l.epochDue with
    | some g => some (.epoch g)
    | none => if l.notePending then some .note else none

/-- A data entry is eligible (R123). -/
def LinkEngine.eligible (l : LinkEngine) (h : Health) (e : DataEntry) : Bool :=
  decide (0 < l.credits) && !l.gates[e.group.val].awaiting && h.inService

/-- What an UP link chooses. -/
def LinkEngine.chooseUp (l : LinkEngine) (h : Health) : Option Build :=
  match l.controlDue with
  | some c => some (.control c)
  | none => (l.queue.find? (l.eligible h)).map .data

/-- What the link chooses in its state (R123). -/
def LinkEngine.choice (l : LinkEngine) (h : Health) : Option Build :=
  match l.state with
  | .unbound | .down => none
  | .training => if l.helloPending then some (.control .hello) else none
  | .up => l.chooseUp h

/-- The choice, made when the transmitter is free and no build is in progress (R123). -/
def LinkEngine.choose (l : LinkEngine) (h : Health) : LinkEngine :=
  if l.sending.isNone ∧ l.build.isNone then { l with build := l.choice h } else l

/-- Every link makes its choice (R123). -/
def State.chooseAll (s : State) : State :=
  { s with links := Vector.ofFn fun m => (s.link m).choose (s.member m).health }

/-! ### Sending (R124, R127) -/

/-- The transmitter sends a frame; the build is over (R124). -/
def LinkEngine.transmit (l : LinkEngine) (f : Frame) : LinkEngine := { l with build := none, sending := some f }

/-- A frame with the coordinator tag in force (R103). -/
def State.frameOf (s : State) (kind : BitVec 4) : Frame := Frame.blank kind s.notices.coordinatorTag

/-- HELLO is sent (R107, R116). -/
def State.sendHello (s : State) (m : LinkId) : State :=
  s.modLink m fun l =>
    { l.transmit { s.frameOf kindHello with param := BitVec.ofNat 32 Config.protocolRevision } with
      helloPending := false }

/-- PROBE is sent (R113, R117). -/
def State.sendProbe (s : State) (m : LinkId) : State :=
  s.modLink m fun l => { l.transmit (s.frameOf kindProbe) with probePending := false, unanswered := l.unanswered + 1 }

/-- FENCE is sent with the member's last fence cause (R111, R136). -/
def State.sendFence (s : State) (m : LinkId) : State :=
  s.modLink m fun l =>
    { l.transmit { s.frameOf kindFence with param := (causeCode (s.member m).cause).zeroExtend 32 } with
      fencePending := false }

/-- The REJOIN of a readmit in flight (R112). -/
def State.rejoinFrame (s : State) (x : Readmit) : Frame :=
  { s.frameOf kindRejoin with
    sequence := x.tag, param := BitVec.ofNat 32 x.offer.length, body := x.offer.flatMap OfferEntry.bytes }

/-- REJOIN is sent, and the membership unit sets the sent flag (R136, R149). -/
def State.sendRejoin (s : State) (m : LinkId) : State :=
  match (s.member m).readmit with
  | none => s.modLink m fun l => { l with build := none, rejoinPending := false }
  | some x =>
    (s.modLink m fun l => { l.transmit (s.rejoinFrame x) with rejoinPending := false }).modMember m fun r =>
      { r with readmit := some { x with sent := true } }

/-- The EPOCH of a group (R110). -/
def State.epochFrame (s : State) (g : GroupId) (r : GroupRecord) : Frame :=
  { s.frameOf kindEpoch with
    group := BitVec.ofNat 8 g.val, epoch := r.epoch, param := r.effective.zeroExtend 32 }

/-- EPOCH is sent: flag cleared, send count raised, timer started (R134). A group no longer defined has none to send
(log 22). -/
def State.sendEpoch (s : State) (m : LinkId) (g : GroupId) : State :=
  match s.group g with
  | none => s.modLink m fun l => { l.modGate g (fun x => { x with epochPending := false }) with build := none }
  | some r =>
    s.modLink m fun l =>
      (l.modGate g fun x =>
        { x with epochPending := false, sends := x.sends + 1, timer := some (s.now + r.ackDeadline) }).transmit
          (s.epochFrame g r)

/-- The NOTE frame (R113). -/
def State.noteFrame (s : State) (n : NoteInFlight) : Frame :=
  { s.frameOf kindNote with sequence := n.tag, body := n.message }

/-- NOTE is sent: flag cleared, sent flag set, timer started (R137). -/
def State.sendNote (s : State) (m : LinkId) : State :=
  match (s.link m).note with
  | none => s.modLink m fun l => { l with build := none, notePending := false }
  | some n =>
    s.modLink m fun l =>
      { l.transmit (s.noteFrame n) with
        notePending := false, note := some { n with sent := true }, noteTimer := some s.replyDeadline }

/-- A control frame is sent (R124). -/
def State.sendControl (s : State) (m : LinkId) : ControlFrame → State
  | .hello => s.sendHello m
  | .probe => s.sendProbe m
  | .fence => s.sendFence m
  | .rejoin => s.sendRejoin m
  | .epoch g => s.sendEpoch m g
  | .note => s.sendNote m

/-- The WRITE of a data entry (R108). -/
def State.writeFrame (s : State) (e : DataEntry) (t : Slot) : Frame :=
  { s.frameOf kindWrite with
    group := BitVec.ofNat 8 e.group.val, epoch := s.epochOf e.group, sequence := e.seq
    param := t.checkWord.getD 0
    body := toBE 8 t.target.toNat ++ s.store.payload t.blocks t.length }

/-- The ack deadline of a group; 0 when it is UNDEFINED, which the spec leaves open (log 38). -/
def State.ackDeadlineOf (s : State) (g : GroupId) : Nat :=
  match s.group g with
  | none => 0
  | some r => r.ackDeadline

/-- The retry limit of a group; 0 when it is UNDEFINED, which the spec leaves open (log 38). -/
def State.retryLimitOf (s : State) (g : GroupId) : Nat :=
  match s.group g with
  | none => 0
  | some r => r.retryLimit

/-- The outstanding entry of a WRITE sent now (R127). -/
def State.outstandingOf (s : State) (e : DataEntry) : Outstanding :=
  { slot := e.slot, group := e.group, seq := e.seq, expiry := s.now + s.ackDeadlineOf e.group, ignored := false }

/-- A WRITE is sent, one event (R127). -/
def State.sendWrite (s : State) (m : LinkId) (e : DataEntry) (t : Slot) : State :=
  (s.modLink m fun l =>
    { l.transmit (s.writeFrame e t) with
      credits := l.credits - 1, outstanding := l.outstanding ++ [s.outstandingOf e]
      queue := l.queue.erase e }).send (e.notice m)

/-- A frame read answered FAULT: the entry leaves, and the store acts on the block (R59, R60, R127). -/
def State.readFault (s : State) (m : LinkId) (e : DataEntry) (word : Nat) : State :=
  (s.leaveQueue m e).parityFailure (Fin.ofNat 256 (word / Config.blockWords)) e.slot e.group e.seq

/-- Completion of the store's frame read of the WRITE being built (R59, R127). Every word is checked at this moment, so a
word that another link's read has found bad meanwhile fails here too (log 7). A slot no longer in use has nothing to
send (log 24). -/
def State.frameReadDone (s : State) (m : LinkId) (upsets : List Nat) : State :=
  match (s.link m).build with
  | some (.data e) =>
    match s.matchSlot e.slot e.group e.seq with
    | none => s.leaveQueue m e
    | some t =>
      let s := s.modStore fun p => p.upset (payloadWords t.blocks t.length) upsets
      match s.store.badWord t.blocks t.length with
      | none => s.sendWrite m e t
      | some word => s.readFault m e word
  | some (.control _) => s
  | none => s

/-- A frame has gone out: the transmitter is free (R124). -/
def State.frameOut (s : State) (m : LinkId) : State := s.modLink m fun l => { l with sending := none }

/-! ### Answers (R128 to R132) -/

/-- The outstanding entry for a group and sequence. -/
def LinkEngine.outstandingFor (l : LinkEngine) (g : GroupId) (seq : Seq) : Option Outstanding :=
  l.outstanding.find? fun o => o.group == g && o.seq == seq

/-- The retransmission-marked data entry for a group and sequence. -/
def LinkEngine.markedFor (l : LinkEngine) (g : GroupId) (seq : Seq) : Option DataEntry :=
  l.queue.find? fun e => e.retransmission && e.group == g && e.seq == seq

/-- An outstanding entry is removed, its ack timer stops and its credit returns (R127). -/
def State.settleOutstanding (s : State) (m : LinkId) (o : Outstanding) : State :=
  s.modLink m fun l => { l with outstanding := l.outstanding.erase o, credits := l.credits + 1 }

/-- An ACK that names a group and sequence (R128). -/
def State.matchAck (s : State) (m : LinkId) (g : GroupId) (seq : Seq) : State :=
  match (s.link m).outstandingFor g seq with
  | some o =>
    let s := s.settleOutstanding m o
    if o.ignored then s else s.send (.ackReport o.slot g seq m)
  | none =>
    match (s.link m).markedFor g seq with
    | some e => (s.send (.ackReport e.slot g seq m)).leaveQueue m e
    | none => s.raise .stray

/-- A body or group that R181 finds malformed in an ACK, NACK or EPOCH_ACK. -/
def badAnswer (f : Frame) : Bool := !f.body.isEmpty || decide (15 < f.group)

/-- An ACK on an UP link (R128, R181). -/
def State.takeAckFrame (s : State) (m : LinkId) (f : Frame) : State :=
  match groupOfByte f.group with
  | none => s
  | some g => if badAnswer f then s else s.matchAck m g f.sequence

/-- NACK reasons (R109, 11.3). -/
inductive NackReason where
  | integrity | gap | failure (f : NackFailure)
  deriving DecidableEq, Repr

/-- The reason of a NACK; none when it is outside the four (R109). -/
def nackReason (w : BitVec 32) : Option NackReason :=
  if w = 1 then some .integrity
  else if w = 2 then some .gap
  else if w = 3 then some (.failure .staleEpoch)
  else if w = 4 then some (.failure .full)
  else none

/-- The request or report that a NACK of an outstanding entry sends the window (R129, R131). -/
def State.nackMessage (s : State) (m : LinkId) (o : Outstanding) : NackReason → Instr
  | .integrity | .gap => .retryRequest o.slot o.group o.seq m (s.retryLimitOf o.group)
  | .failure f => .nackReport o.slot o.group o.seq m f

/-- A NACK on an UP link (R129, R131, R181). -/
def State.takeNackFrame (s : State) (m : LinkId) (f : Frame) : State :=
  match groupOfByte f.group, nackReason f.param with
  | some g, some why =>
    if badAnswer f then s
    else match (s.link m).outstandingFor g f.sequence with
      | none => s.raise .stray
      | some o =>
        let t := s.settleOutstanding m o
        if o.ignored then t else t.send (s.nackMessage m o why)
  | _, _ => s

/-- Expiry of the ack timer of an outstanding entry (R132). -/
def State.ackExpired (s : State) (m : LinkId) (g : GroupId) (seq : Seq) : State :=
  match (s.link m).outstandingFor g seq with
  | none => s
  | some o =>
    let t := (s.reachTime o.expiry).settleOutstanding m o
    if o.ignored then t else t.send (.retryRequest o.slot g seq m (s.retryLimitOf g))

/-! ### Gates (R133 to R135) -/

/-- A gate request's release: gate OPEN, no exchange; an EPOCH being built for the group is abandoned (R133). -/
def State.releaseGate (s : State) (m : LinkId) (g : GroupId) : State :=
  s.modLink m fun l => (l.abandonBuild (Build.isEpochOf g)).modGate g fun _ => Gate.idle

/-- A gate's close (R133): on an UP link the exchange starts afresh and builds of the group are abandoned. -/
def State.closeGate (s : State) (m : LinkId) (g : GroupId) : State :=
  if (s.link m).state = .up then
    s.modLink m fun l =>
      (l.abandonBuild fun b => b.isEpochOf g || b.isDataOf g).modGate g fun _ =>
        { awaiting := true, epochPending := true, timer := none, sends := 0 }
  else s.releaseGate m g

/-- Expiry of the EPOCH timer of a group (R134). A send count above the limit has run out, also where the group has been
undefined or redefined and its release or close is still under way (log 38). -/
def State.epochExpired (s : State) (m : LinkId) (g : GroupId) : State :=
  let x := (s.link m).gates[g.val]
  match x.timer with
  | none => s
  | some t =>
    let s := s.reachTime t
    if x.sends ≤ s.retryLimitOf g then
      s.modLink m fun l => l.modGate g fun x => { x with epochPending := true, timer := none }
    else (s.modLink m fun l => l.modGate g fun x => { x with timer := none }).send (.fenceRequest m .epochLost)

/-- An EPOCH_ACK on an UP link (R135, R181). -/
def State.takeEpochAck (s : State) (m : LinkId) (f : Frame) : State :=
  match groupOfByte f.group with
  | none => s
  | some g =>
    match s.group g with
    | none => s
    | some r =>
      if badAnswer f = false ∧ f.epoch = r.epoch ∧ (s.link m).gates[g.val].awaiting then s.releaseGate m g else s

/-! ### Received frames (R105, R106, R117) -/

/-- A frame that has passed R104: the origin check, liveness, and its kind's action in TRAINING or in UP (R105,
R106). -/
def State.receive (s : State) (m : LinkId) (f : Frame) (inTraining inUp : State → State) : State :=
  let l := s.link m
  match l.state with
  | .unbound | .down => s
  | .training => if l.tag = some f.senderTag then inTraining s else s.raise .origin
  | .up =>
    if l.tag = some f.senderTag then inUp (s.setLink m { l with heard := true, unanswered := 0 })
    else s.raise .origin

/-- A received HELLO_REPLY (R106, R116). -/
def State.receiveHelloReply (s : State) (m : LinkId) (f : Frame) : State :=
  s.receive m f (fun s => if badHelloReply f then s else s.enterUp m (replyWindow f)) id

/-- A received frame of a kind that is discarded in TRAINING and acted on in UP (R106). -/
def State.receiveUp (s : State) (m : LinkId) (f : Frame) (act : State → State) : State := s.receive m f id act

/-- A received ACK (R128). -/
def State.receiveAck (s : State) (m : LinkId) (f : Frame) : State := s.receiveUp m f fun s => s.takeAckFrame m f

/-- A received NACK (R129, R131). -/
def State.receiveNack (s : State) (m : LinkId) (f : Frame) : State := s.receiveUp m f fun s => s.takeNackFrame m f

/-- A received EPOCH_ACK (R135). -/
def State.receiveEpochAck (s : State) (m : LinkId) (f : Frame) : State := s.receiveUp m f fun s => s.takeEpochAck m f

/-- A received REJOIN_REPLY (R150). -/
def State.receiveRejoinReply (s : State) (m : LinkId) (f : Frame) : State :=
  s.receiveUp m f fun s => s.takeRejoinReply m f

/-- A received NOTE_REPLY (R137). -/
def State.receiveNoteReply (s : State) (m : LinkId) (f : Frame) : State :=
  s.receiveUp m f fun s => s.takeNoteReply m f

/-- A received frame that only counts for liveness: PROBE_REPLY, and the kinds the part does not take (R106, R113). -/
def State.receiveUnheeded (s : State) (m : LinkId) (f : Frame) : State := s.receiveUp m f id

/-! ### HALT and reset (R140, R141) -/

/-- HALT at a link engine (R140). -/
def LinkEngine.halt (l : LinkEngine) : LinkEngine :=
  { l with
    queue := [], build := none, outstanding := [], credits := l.w, gates := Vector.replicate 16 Gate.idle
    rejoinPending := false, notePending := false, note := none, noteTimer := none }

/-- HALT at every link engine (R140). -/
def State.haltLinks (s : State) : State := { s with links := s.links.map LinkEngine.halt }

end Sys2Proof.Machine
end

