-- ==== Sys2Proof/Machine/Mirror.lean ====
section
/-! DEFINITION. The status mirror (R161 to R165, 11.4), and the end of every event: the transmitters' choices, the
dirty mark, the mirror write and the arbiter. -/

namespace Sys2Proof.Machine

/-! ### The mirrored status (R163, 11.4) -/

/-- A link section. -/
structure LinkStatus where
  state : LinkState
  health : Health
  cause : Option FenceCause
  w : Nat
  credits : Nat
  tag : Option NodeTag
  deriving DecidableEq, Repr

/-- The fields the mirror body carries (the table of 9.4). -/
structure Status where
  raw : BitVec 12
  active : BitVec 12
  run : RunState
  chain : ChainState
  heldReason : HeldReason
  pendingPosts : Nat
  slotsInUse : Nat
  freeCount : Nat
  quarantined : Nat
  walkPointer : Addr
  unreported : Addr
  doneTally : Word32
  links : List LinkStatus
  groups : List (Option GroupStatus)
  deriving DecidableEq, Repr

/-- A link's section as the blocks hold it. -/
def State.linkStatus (s : State) (m : LinkId) : LinkStatus :=
  { state := (s.link m).state, health := (s.member m).health, cause := (s.member m).cause, w := (s.link m).w
    credits := (s.link m).credits, tag := (s.link m).tag }

/-- The status as the blocks hold it at one event (R163). -/
def State.status (s : State) : Status :=
  { raw := s.notices.raw, active := s.notices.active, run := s.port.run, chain := s.chain.state
    heldReason := s.chain.heldReason, pendingPosts := s.chain.pendingPosts, slotsInUse := s.slotsInUse
    freeCount := s.store.free.length, quarantined := s.store.quarantine.length, walkPointer := s.chain.walkPointer
    unreported := s.chain.unreported, doneTally := s.notices.doneTally, links := allLinks.map s.linkStatus
    groups := allGroups.map fun g => (s.group g).map GroupRecord.status }

/-- The 8 bytes of a link section (11.4). -/
def LinkStatus.bytes (l : LinkStatus) : List Byte :=
  [BitVec.ofNat 8 l.state.code, BitVec.ofNat 8 l.health.code, causeCode l.cause, BitVec.ofNat 8 l.w,
    BitVec.ofNat 8 l.credits, 0] ++ toLE 2 (l.tag.getD 0).toNat

/-- The 16 bytes of a group section; all zero for an UNDEFINED group (R15, 11.4). -/
def groupSection : Option GroupStatus → List Byte
  | none => zeros 16
  | some r =>
    [BitVec.ofNat 8 r.state.code, r.effective, if r.frozen then 1 else 0, 0] ++ toLE 2 r.epoch.toNat ++ zeros 2
      ++ toLE 4 r.next.toNat ++ toLE 4 r.settle.toNat

/-- The body's fixed part, 0x004 to 0x03F (11.4). -/
def Status.head (v : Status) : List Byte :=
  toLE 2 Config.familyCode.toNat ++ [Config.deviceRevision, 0] ++ toLE 2 v.raw.toNat ++ toLE 2 v.active.toNat
    ++ [BitVec.ofNat 8 v.run.code, BitVec.ofNat 8 v.chain.code, BitVec.ofNat 8 v.heldReason.code, 0]
    ++ toLE 2 v.pendingPosts ++ [BitVec.ofNat 8 v.slotsInUse, 0] ++ toLE 2 v.freeCount ++ toLE 2 v.quarantined
    ++ toLE 8 v.walkPointer.toNat ++ toLE 8 v.unreported.toNat ++ toLE 4 v.doneTally.toNat ++ zeros 20

/-- The mirror body, 0x004 to 0x1FB (11.4). -/
def Status.bytes (v : Status) : List Byte :=
  v.head ++ v.links.flatMap LinkStatus.bytes ++ v.groups.flatMap groupSection ++ zeros 124

/-! ### Mirror writes (R162 to R164) -/

/-- A mirror write has faulted or been refused (R164). -/
def State.mirrorFault (s : State) : State :=
  ((s.modNotices fun u => { u with writeInFlight := false, mirrorState := .broken, intervalTimer := none }).raise
    .systemFault).reconsider

/-- Ask for a memory write of the mirror write (R163). -/
def State.askMirror (s : State) (r : MemRequest) : State :=
  if r.refused then s.mirrorFault else s.ask r

/-- A memory write of a mirror block, at an offset of the mirror base. -/
def State.mirrorRequest (s : State) (kind : RequestKind) (offset : BitVec 64) (bytes : List Byte) : MemRequest :=
  writeRequest kind (s.notices.mirrorBase + offset) bytes

/-- The generation count's bytes (R163). -/
def NoticeUnit.generationBytes (u : NoticeUnit) : List Byte := toLE 4 u.generation.toNat

/-- The three conditions of R162 in state ON. -/
def NoticeUnit.writeDue (u : NoticeUnit) : Bool :=
  u.mirrorState == .on && u.dirty && !u.writeInFlight && u.intervalTimer.isNone

/-- A mirror write begins, if R162's conditions hold. -/
def State.beginMirror (s : State) : State :=
  if s.notices.writeDue then
    let s := s.modNotices fun u =>
      { u with
        dirty := false, writeInFlight := true, generation := u.generation + 1
        intervalTimer := if u.mirrorInterval = 0 then none else some (s.now + u.mirrorInterval) }
    s.askMirror (s.mirrorRequest .mirrorLeading 0 s.notices.generationBytes)
  else s

/-- Completion without error of a memory write of a mirror write: an abandoned one only ends (R163, R165). -/
def State.mirrorStage (s : State) (kind : RequestKind) (act : State → State) : State :=
  match s.completing kind with
  | none => s
  | some r =>
    let s := s.freeResource
    if r.abandoned then s.modNotices fun u => { u with writeInFlight := false } else act s

/-- The leading count is written: the body is gathered and asked for (R163). -/
def State.leadingWritten (s : State) : State :=
  s.mirrorStage .mirrorLeading fun s => s.askMirror (s.mirrorRequest .mirrorBody 4 s.status.bytes)

/-- The body is written: the trailing count is asked for (R163). -/
def State.bodyWritten (s : State) : State :=
  s.mirrorStage .mirrorBody fun s => s.askMirror (s.mirrorRequest .mirrorTrailing 0x1FC s.notices.generationBytes)

/-- The trailing count is written: the mirror write has ended (R163, R166). -/
def State.trailingWritten (s : State) : State :=
  s.mirrorStage .mirrorTrailing fun s => (s.modNotices fun u => { u with writeInFlight := false }).reconsider

/-- A memory write of a mirror write has completed with an error (R164, R165). -/
def State.mirrorError (s : State) : State :=
  match s.completingClass .mirror with
  | none => s
  | some r =>
    let s := s.freeResource
    if r.abandoned then s.modNotices fun u => { u with writeInFlight := false } else s.mirrorFault

/-- Expiry of the mirror interval timer (R162). -/
def State.intervalExpired (s : State) : State :=
  match s.notices.intervalTimer with
  | none => s
  | some t => (s.reachTime t).modNotices fun u => { u with intervalTimer := none }

/-- A mirror write has been issued and not completed (R165 step 1). -/
def State.mirrorIssued (s : State) : Bool := (s.completingClass .mirror).isSome

/-- A mirror write in flight is abandoned (R165 step 1). -/
def State.abandonMirror (s : State) : State :=
  (s.modPort fun p => p.dropClass .mirror).modNotices fun u =>
    { u with writeInFlight := u.writeInFlight && s.mirrorIssued }

/-! ### The end of an event -/

/-- The dirty mark for what this event has changed of the mirrored fields (R161, log 16); the group table has marked its
own changes as they were made (R15). -/
def State.markChanges (before s : State) : State := if s.status = before.status then s else s.markDirty

/-- The arbiter issues what it can (R100, log 10). -/
def State.arbitrate (s : State) : State := s.modPort SystemPort.arbitrate

/-- What every event ends with: the choices it has made possible, the dirty mark, the mirror write that may begin, and
the arbiter. -/
def State.finish (before s : State) : State := (State.markChanges before s.chooseAll).beginMirror.arbitrate

end Sys2Proof.Machine
end

