-- ==== Sys2Proof/Machine/Background.lean ====
section
/-! DEFINITION. What the part does of itself when no command waits: requests in flight, control frames to send, expired
timers, the passing of time (log 1, log 2, log 3). -/

namespace Sys2Proof.Machine

/-- A timer that has expired gives its expiry command (log 2). -/
def dueAt (now : Nat) (timer : Option Nat) (c : Instr) : Option Instr :=
  match timer with
  | none => none
  | some t => if t ≤ now then some c else none

/-- An outstanding entry's expired ack timer (R132). -/
def ackDue (now : Nat) (m : LinkId) (o : Outstanding) : Option Instr :=
  dueAt now (some o.expiry) (.ackTimerExpiry m o.group o.seq)

/-- The expired timers of a link engine and its member, in a fixed order. -/
def State.linkTimer (s : State) (m : LinkId) : Option Instr :=
  let l := s.link m
  dueAt s.now l.helloTimer (.helloTimerExpiry m)
    <|> dueAt s.now l.silenceTimer (.silenceTimerExpiry m)
    <|> l.outstanding.findSome? (ackDue s.now m)
    <|> allGroups.findSome? (fun g => dueAt s.now l.gates[g.val].timer (.epochTimerExpiry m g))
    <|> dueAt s.now l.noteTimer (.noteTimerExpiry m)
    <|> dueAt s.now (s.member m).replyTimer (.replyTimerExpiry m)

/-- A slot's expired order deadline timer (R38). -/
def State.slotTimer (s : State) (i : SlotId) : Option Instr :=
  match s.slot i with
  | none => none
  | some t =>
    match t.admission with
    | none => none
    | some a => if t.deadlineRunning then dueAt s.now (some a.deadline) (.orderDeadlineExpiry i) else none

/-- The first expired timer, in a fixed order (log 2). -/
def State.dueTimer (s : State) : Option Instr :=
  dueAt s.now s.chain.linkWaitTimer .linkWaitExpiry
    <|> dueAt s.now s.chain.retryTimer .reportRetryExpiry
    <|> dueAt s.now s.notices.intervalTimer .intervalTimerExpiry
    <|> allLinks.findSome? s.linkTimer
    <|> allSlots.findSome? s.slotTimer

/-- The control frame a link's transmitter is ready to send (R124). -/
def LinkEngine.readyControl (l : LinkEngine) : Option ControlFrame :=
  match l.build, l.sending with
  | some (.control c), none => some c
  | _, _ => none

/-- What the part does next of itself. -/
inductive OwnEvent where
  | command (c : Instr)
  | send (m : LinkId)
  | tick
  deriving DecidableEq, Repr

/-- The oldest request in flight first, then a control frame of the lowest link, then an expired timer, then the passing
of a microsecond. -/
def State.ownEvent (s : State) : OwnEvent :=
  match s.inFlight with
  | c :: _ => .command c
  | [] =>
    match allLinks.find? fun m => (s.link m).readyControl.isSome with
    | some m => .send m
    | none =>
      match s.dueTimer with
      | some c => .command c
      | none => .tick

/-- The send of the control frame that link `m` has built (R124). -/
def State.sendDue (s : State) (m : LinkId) : State :=
  match (s.link m).readyControl with
  | none => s
  | some c => State.finish s (s.sendControl m c)

/-- A microsecond passes. -/
def State.tick (s : State) : State := { s with now := s.now + 1 }

end Sys2Proof.Machine
end

