-- ==== Sys2Proof/Machine/OrderOps.lean ====
section
/-! DEFINITION. The orders at their dispatch (R66 to R79): what each kind checks, does and reports. The record is the
fetched copy whose POSTED state led to the claim (R65). -/

namespace Sys2Proof.Machine

/-! ### SETUP (R70, R71, R165) -/

/-- A link is TRAINING or UP. -/
def LinkEngine.busy (l : LinkEngine) : Bool := l.state == .training || l.state == .up

/-- A mirror base that is not 0 and is misaligned, or whose block reaches 2^48 (R70 check 2). -/
def badMirrorBase (a : Addr) : Bool :=
  a != 0 && (a.toNat % 64 != 0 || decide (Config.addressLimit ≤ a.toNat + 511))

/-- The checks of R70 in order; OK when the SETUP is taken. -/
def State.setupOutcome (s : State) (f : SetupFields) : OrderOutcome :=
  if f.coordinatorTag = 0 then .badField
  else if badMirrorBase f.mirrorBase then .badField
  else if 1023 < f.mirrorInterval then .badField
  else if f.probeInterval < 100 then .badField
  else if f.coordinatorTag ≠ s.notices.coordinatorTag ∧ allLinks.any (fun m => (s.link m).busy) then .linkBusy
  else .ok

/-- The notice unit takes the four setup values (R71, R165 steps 2 to 5). -/
def NoticeUnit.setup (u : NoticeUnit) (f : SetupFields) : NoticeUnit :=
  { u with
    coordinatorTag := f.coordinatorTag, probeInterval := f.probeInterval, mirrorBase := f.mirrorBase
    mirrorInterval := f.mirrorInterval, mirrorState := if f.mirrorBase = 0 then .off else .on
    intervalTimer := none, dirty := true }

/-- A SETUP that is taken (R71, R165, R115, R166). -/
def State.takeSetup (s : State) (f : SetupFields) : State :=
  (forLinks (fun m s => s.tryTraining m) (s.abandonMirror.modNotices fun u => u.setup f)).reconsiderUnlessOn

/-- A dispatched SETUP. -/
def State.dispatchSetup (s : State) (order : Addr) (f : SetupFields) : State :=
  match s.setupOutcome f with
  | .ok => (s.takeSetup f).endOrder order .ok
  | refusal => s.endOrder order refusal

/-! ### GROUP_SET (R72) -/

/-- A GROUP_SET that is taken (R4, R5). -/
def State.takeGroupSet (s : State) (g : GroupId) (f : GroupSetFields) : State :=
  if f.members = 0 then s.undefineGroup g else s.defineGroup g f

/-- A dispatched GROUP_SET; its result area holds the epoch as the order set it (R72). -/
def State.dispatchGroupSet (s : State) (order : Addr) (f : GroupSetFields) : State :=
  match s.groupSetOutcome f, groupOfByte f.group with
  | .ok, some g =>
    let t := s.takeGroupSet g f
    t.reportOrder order .ok (.groupSet (t.epochOf g))
  | refusal, _ => s.endOrder order refusal

/-! ### LINK_BIND (R73, R115) -/

/-- An unbind finds work in flight on the link (R73 check 5). -/
def State.unbindBusy (s : State) (m : LinkId) : Bool :=
  (s.member m).health.inService || (s.member m).readmit.isSome || (s.link m).note.isSome
    || !(s.link m).queue.isEmpty || !(s.link m).outstanding.isEmpty

/-- The checks of R73 in order on a link number that passes; OK when the LINK_BIND is taken. -/
def State.bindOutcome (s : State) (m : LinkId) (tag : NodeTag) : OrderOutcome :=
  if tag ≠ 0 ∧ allLinks.any (fun k => k != m && (s.link k).tag == some tag) then .badField
  else if tag ≠ 0 ∧ s.notices.coordinatorTag = 0 then .noSetup
  else if (s.link m).busy then .linkBusy
  else if tag = 0 ∧ s.unbindBusy m then .linkBusy
  else .ok

/-- A LINK_BIND that is taken (R73, R115). -/
def State.takeBind (s : State) (m : LinkId) (tag : NodeTag) : State :=
  let l := s.link m
  match l.state with
  | .unbound =>
    if tag = 0 then s else (s.changeLink m { l with tag := some tag, state := .down }).tryTraining m
  | .down =>
    if tag = 0 then s.changeLink m { l with tag := none, state := .unbound } else s.setLink m { l with tag := some tag }
  | .training | .up => s

/-- A dispatched LINK_BIND. -/
def State.dispatchBind (s : State) (order : Addr) (link : Option LinkId) (tag : NodeTag) : State :=
  match link with
  | none => s.endOrder order .badField
  | some m =>
    match s.bindOutcome m tag with
    | .ok => (s.takeBind m tag).endOrder order .ok
    | refusal => s.endOrder order refusal

/-! ### EXCLUDE (R74, R148) -/

/-- A dispatched EXCLUDE: a member in service is fenced, and the report waits for the fence's three requests. -/
def State.dispatchExclude (s : State) (order : Addr) (link : Option LinkId) : State :=
  match link with
  | none => s.endOrder order .badField
  | some m =>
    if (s.member m).health.inService then
      (s.fence m .admin).modChain fun c => { c with excluding := some { order := order, member := m } }
    else s.endOrder order .ok

/-! ### READMIT (R75) -/

/-- A dispatched READMIT. The membership unit's earlier requests to the group table and the link engines are taken
before those it now makes (R146). -/
def State.dispatchReadmitOrder (s : State) (order : Addr) (link : Option LinkId) (tag : BitVec 32) : State :=
  match link with
  | none => s.reportOrder order .badField refusedReadmit
  | some m => s.takeMembershipAll.excludeCheck.dispatchReadmit m order tag

/-! ### COMMIT (R77, R20, R51) -/

/-- The checks of R77 in order; none when the order is dispatched to the window and the store. -/
def State.commitRefusal (s : State) (r : Record) : Option OrderOutcome :=
  match r.group? with
  | none => some .badField
  | some g =>
    if r.payloadLength = 0 ∨ Config.maxPayload < r.payloadLength then some .badField
    else if Config.addressLimit ≤ r.payloadAddr.toNat then some .badField
    else if (s.group g).isNone then some .groupUndefined
    else if s.store.fit r.payloadLength = .never then some .storeShort
    else none

/-- The slot as a dispatched COMMIT writes it (R20). -/
def takenSlot (order : Addr) (g : GroupId) (r : Record) (blocks : List BlockId) : Slot :=
  { state := .loading, order := order, group := g, waitAll := r.waitAll, payloadAddr := r.payloadAddr
    length := r.payloadLength, target := r.targetOffset, blocks := blocks, checkWord := none, admission := none
    results := Vector.replicate 8 .none, retries := Vector.replicate 8 0, firstTry := 0, queued := 0
    deadlineRunning := false, poisoned := false, report := none }

/-- The window takes slot `i`, the store allocates the blocks, the group table counts the slot, and the slot joins the
loader queue: one event (R12, R20, R51). -/
def State.takeSlot (s : State) (i : SlotId) (g : GroupId) (order : Addr) (r : Record) : State :=
  let need := blocksNeeded r.payloadLength
  let s := s.setSlot i (some (takenSlot order g r (s.store.free.take need)))
  ((s.modStore fun p => { p with free := p.free.drop need }).countSlot g).joinLoader i

/-- A dispatched COMMIT (R77). The chain reader held the record until a slot and the blocks were there; without them
nothing is dispatched (R20, R50, log 24). -/
def State.dispatchCommit (s : State) (order : Addr) (r : Record) : State :=
  match s.commitRefusal r with
  | some outcome => s.endOrder order outcome
  | none =>
    match s.freeSlot?, r.group? with
    | some i, some g => if s.store.fit r.payloadLength = .fits then s.takeSlot i g order r else s
    | _, _ => s

/-! ### BARRIER (R78, R92, R93) -/

/-- The target groups of a BARRIER (R78). -/
def State.barrierGroups (s : State) : BarrierTarget → List GroupId
  | .group g => [g]
  | .all => allGroups.filter fun g => (s.group g).isSome

/-- A slot is LOADING for one of some groups (R92). -/
def State.loadingFor (s : State) (gs : List GroupId) (i : SlotId) : Bool :=
  match s.slot i with
  | none => false
  | some t => t.state == .loading && gs.contains t.group

/-- The next sequence of a group; 0 when it is UNDEFINED. -/
def State.nextSeq (s : State) (g : GroupId) : Seq :=
  match s.group g with
  | none => 0
  | some r => r.next

/-- What a BARRIER records at its claim (R78, R92). -/
def State.recordBarrier (s : State) (order : Addr) (target : BarrierTarget) : HeldBarrier :=
  let gs := s.barrierGroups target
  { order := order, targets := groupSetOf gs, recorded := gs.map fun g => (g, s.nextSeq g)
    loading := allSlots.filter (s.loadingFor gs) }

/-- The test of R92: every target group's settle mark has reached its recorded value and every recorded slot is
FREE. -/
def State.barrierSatisfied (s : State) (b : HeldBarrier) : Bool :=
  (b.recorded.all fun p => decide (p.2 ≤ s.settleMark p.1)) && b.loading.all fun i => (s.slot i).isNone

/-- A satisfied BARRIER's report: the target set and the settle marks at the test (R78, R92). -/
def State.reportBarrier (s : State) (b : HeldBarrier) : State :=
  s.reportOrder b.order .ok (.barrier b.targets (b.recorded.map fun p => s.settleMark p.1))

/-- A BARRIER not satisfied is held; FAULTED and STOPPED stay as they are (R92, R93). -/
def ChainReader.holdBarrier (c : ChainReader) (b : HeldBarrier) : ChainReader :=
  { c with
    heldBarrier := some b, heldReason := .barrier
    state := if c.state = .faulted ∨ c.state = .stopped then c.state else .held }

/-- A dispatched BARRIER (R78, R92). -/
def State.dispatchBarrier (s : State) (order : Addr) (target : Option BarrierTarget) : State :=
  match target with
  | none => s.endOrder order .badField
  | some target =>
    if (s.barrierGroups target).any fun g => (s.group g).isNone then s.endOrder order .groupUndefined
    else
      let b := s.recordBarrier order target
      if s.barrierSatisfied b then s.reportBarrier b else s.modChain fun c => c.holdBarrier b

/-- The walk after a held BARRIER has been satisfied (R93). -/
def State.afterBarrier (s : State) : State :=
  if s.chain.state = .held then (s.modChain fun c => { c with state := .idle }).fetchIfDue else s

/-- A BARRIER re-evaluation (R93). -/
def State.reEvaluate (s : State) : State :=
  match s.chain.heldBarrier with
  | none => s
  | some b =>
    if s.barrierSatisfied b then
      ((s.reportBarrier b).modChain fun c => { c with heldBarrier := none, heldReason := .none }).afterBarrier
    else s

/-! ### NOTE (R79, R137) -/

/-- The checks of R79 in order; none when the order is dispatched to the link engine. -/
def State.noteRefusal (s : State) (m : LinkId) (r : Record) : Option OrderOutcome :=
  if r.noteLength = 0 ∨ 64 < r.noteLength then some .badField
  else if (s.link m).state ≠ .up then some .linkNotUp
  else if (s.member m).readmit.isSome ∨ (s.link m).note.isSome then some .memberBusy
  else none

/-- The link engine takes a NOTE (R137). -/
def State.takeNote (s : State) (m : LinkId) (order : Addr) (r : Record) : State :=
  s.modLink m fun l =>
    { l with
      note := some { order := order, tag := r.tag, message := r.noteMessage, sent := false }, notePending := true }

/-- A dispatched NOTE on a link (R79). -/
def State.dispatchNote (s : State) (m : LinkId) (order : Addr) (r : Record) : State :=
  match s.noteRefusal m r with
  | some outcome => s.endOrder order outcome
  | none => s.takeNote m order r

/-! ### Dispatch and claim (R66, R88, R89) -/

/-- Validation and dispatch of a claimed record by its kind (R66). -/
def State.dispatch (s : State) (order : Addr) (r : Record) : State :=
  match orderKind r.kind with
  | none => s.endOrder order .badKind
  | some .nop => s.endOrder order .ok
  | some .setup => s.dispatchSetup order r.setupFields
  | some .groupSet => s.dispatchGroupSet order r.groupSetFields
  | some .linkBind => s.dispatchBind order r.link? r.bindTag
  | some .exclude => s.dispatchExclude order r.link?
  | some .readmit => s.dispatchReadmitOrder order r.link? r.tag
  | some .commit => s.dispatchCommit order r
  | some .barrier => s.dispatchBarrier order r.barrierTarget
  | some (.note m) => s.dispatchNote m order r

/-- The chain reader's fields at a claim (R88 steps 1 to 3). -/
def ChainReader.claim (c : ChainReader) : ChainReader :=
  { c with
    pendingPosts := c.pendingPosts - 1, walkPointer := c.fetchTarget, anchor := true, linkWaitCount := 0
    fetchAddr := none, fetched := none, walk := .dispatching }

/-- Steps 1 to 3 of a claim, with CATCH_UP when Pending Posts reaches 0 (R83, R88). -/
def State.claim (s : State) : State :=
  let s := s.modChain ChainReader.claim
  if s.chain.pendingPosts = 0 then s.raise .catchUp else s

/-- A dispatch that has been taken goes on; an EXCLUDE under way does so at its report (R66, R88). -/
def State.afterDispatch (s : State) : State := if s.chain.excluding.isSome then s else s.goOn

/-- Completion of the TAKEN write (R88, R89): the claim, or a chain fault. -/
def State.takenDone (s : State) (ok : Bool) : State :=
  s.walkCompletion .takenWrite fun s =>
    if ok then
      match s.chain.fetched with
      | none => s
      | some r => (((s.claim).dispatch s.chain.fetchTarget r).afterDispatch).reportQuiet
    else ((s.modChain fun c => { c with faultDue := false }).chainFault).reportQuiet

end Sys2Proof.Machine
end

