-- ==== Sys2Proof/Machine/Commands.lean ====
section
/-! DEFINITION. What the register window and the resets do: ORIGIN, POST, the run commands, HALT and RESET, NOTICE and
MASK, refused writes, power-on (chapter 10, R82, R85, R158, R159). -/

namespace Sys2Proof.Machine

/-! ### ORIGIN and POST (R82, R85, R178) -/

/-- A refused register write changes nothing and raises REFUSED (R177). -/
def State.refuseWrite (s : State) : State := s.raise .refused

/-- The chain state after an accepted ORIGIN write (R85). -/
def ChainState.afterOrigin : ChainState → ChainState
  | .idle | .faulted => .stopped
  | .stopped => .stopped
  | .fetching => .fetching
  | .linkWait => .linkWait
  | .held => .held

/-- The ORIGIN-write report at the chain reader (R85). -/
def ChainReader.originWritten (c : ChainReader) : ChainReader :=
  { c with pendingPosts := 0, anchor := false, unreported := 0, state := c.state.afterOrigin }

/-- An ORIGIN write is accepted in STOPPED and QUIESCED (R178). -/
def RunState.acceptsOrigin : RunState → Bool
  | .stopped | .quiesced => true
  | .running | .quiescing | .halted => false

/-- A write to either half of ORIGIN (R178). -/
def State.writeOrigin (s : State) (f : SystemPort → SystemPort) : State :=
  if s.port.run.acceptsOrigin then (s.modPort f).modChain ChainReader.originWritten else s.refuseWrite

/-- A write to POST (R82); a value of 0 changes nothing. -/
def State.addPosts (s : State) (n : Nat) : State :=
  if n = 0 then s
  else if Config.maxPosts < s.chain.pendingPosts + n then
    let s := (s.modChain fun c => { c with pendingPosts := Config.maxPosts }).raise .chainFault
    if s.port.run = .halted then s else s.enterFaulted
  else (s.modChain fun c => { c with pendingPosts := c.pendingPosts + n }).fetchIfDue

/-! ### START (R85, R169) -/

/-- ORIGIN passes the check of R169. -/
def goodOrigin (a : Addr) : Bool := a != 0 && a.toNat % Config.recordBytes == 0

/-- The conditions of R169. -/
def State.startTaken (s : State) : Bool :=
  goodOrigin s.port.origin &&
    match s.port.run with
    | .stopped => s.chain.state != .faulted
    | .quiesced => true
    | .running | .quiescing | .halted => false

/-- The walk begins at ORIGIN (R85). -/
def ChainReader.beginAt (c : ChainReader) (origin : Addr) : ChainReader :=
  { c with walkPointer := origin, anchor := false, state := .idle }

/-- START (R85, R169). -/
def State.startRun (s : State) : State :=
  if s.startTaken then
    let fromOrigin := s.port.run == .stopped || s.chain.state == .stopped
    let origin := s.port.origin
    let s := s.modPort fun p => { p with run := .running }
    (if fromOrigin then s.modChain fun c => c.beginAt origin else s).fetchIfDue
  else s.refuseWrite

/-! ### QUIESCE (R170, R171) -/

/-- The walk is not touched by a QUIESCE: a TAKEN write is issued, an order is being dispatched, a BARRIER is held, or
the chain is IDLE, FAULTED or STOPPED (R171). -/
def State.stopLeaves (s : State) : Bool :=
  s.takenIssued || s.chain.walk == .dispatching || s.chain.heldBarrier.isSome || s.chain.state == .idle
    || s.chain.state == .faulted || s.chain.state == .stopped

/-- The stop of the walk (R171). -/
def State.stopForQuiesce (s : State) : State :=
  if s.stopLeaves then s else s.stopWalk.modChain fun c => { c with state := .idle, linkWaitCount := 0 }

/-- QUIESCE (R170). -/
def State.quiesceRun (s : State) : State :=
  match s.port.run with
  | .running => ((s.modPort fun p => { p with run := .quiescing }).stopForQuiesce).testQuiet
  | .quiescing | .quiesced => s
  | .stopped | .halted => s.refuseWrite

/-! ### HALT (R173) and the abandonment -/

/-- HALT at the arbiter: waiting requests of classes 1, 3 and 4 are removed, and the one in flight, unless the
mirror's, is given up (R100, R182). -/
def SystemPort.halt (p : SystemPort) : SystemPort := ((p.dropClass .report).dropClass .walk).dropClass .payload

/-- HALT at the chain reader (R89, R102). An EXCLUDE whose fence's requests have not all been taken is dropped without a
report (log 6). -/
def ChainReader.halt (c : ChainReader) : ChainReader :=
  { c with
    state := .stopped, heldReason := .none, fetchAddr := none, fetched := none, linkWaitCount := 0
    heldBarrier := none, reports := [], reserved := 0, walk := .idle, linkWaitTimer := none, reporter := .idle
    retryUsed := false, retryTimer := none, faultDue := false, excluding := none }

/-- The abandonment of work in flight at every block (R173). The admission requests under way are taken before the slots
are freed, so that every group ends with its settle mark at its next sequence (R18, log 35). The blocks go in any order by
R173; within the membership unit the readmits in flight are dropped before the fences, an order that R154, R155 and R173
do not give (log 28). -/
def State.abandon (s : State) : State :=
  let s := ((s.modPort SystemPort.halt).modChain ChainReader.halt).takeAdmissions
  let s := forLinks State.dropReadmit s.freeAllSlots.dropLoads
  (forLinks (fun m s => s.fence m .reset) s).haltLinks

/-- HALT (R173); taken in HALTED it changes nothing. -/
def State.haltRun (s : State) : State := if s.port.run = .halted then s else (s.enterRun .halted).abandon

/-! ### RESET (R175) -/

/-- The chain reader after a soft reset: the walk pointer is kept (R81, R102). -/
def ChainReader.softReset (c : ChainReader) : ChainReader := { ChainReader.reset with walkPointer := c.walkPointer }

/-- The store after a soft reset: both lists are rebuilt, block contents left as they stand (R62). -/
def PayloadStore.softReset (p : PayloadStore) : PayloadStore :=
  { p with free := allBlocks, quarantine := [], loaderQueue := [], load := none }

/-- The notice unit after a soft reset (R167). -/
def NoticeUnit.softReset (u : NoticeUnit) : NoticeUnit :=
  { u with raw := 0, mirrorState := .off, mirrorBase := 0, dirty := true, intervalTimer := none }

/-- The soft-reset initialization of every block (R175 step 2). -/
def State.softInitialize (s : State) : State :=
  let s := s.abandonMirror
  { s with
    inFlight := []
    port := { s.port with run := .stopped, latch := false }
    chain := s.chain.softReset
    window := Vector.replicate 32 none
    store := s.store.softReset
    groups := s.groups.map (Option.map GroupRecord.softReset)
    members := s.members.map Member.softReset
    links := s.links.map LinkEngine.halt
    notices := s.notices.softReset }

/-- RESET (R175). -/
def State.softReset (s : State) : State :=
  ((s.abandon.takeMembershipAll).softInitialize).raise .runChange

/-! ### A RUN write's command (11.5) -/

/-- A write to RUN: a command, or REFUSED (R177). -/
def State.writeRun (s : State) (w : Word32) : State :=
  if runField w = 1 then s.startRun
  else if runField w = 2 then s.quiesceRun
  else if runField w = 3 then s.haltRun
  else if runField w = 4 then s.softReset
  else s.refuseWrite

/-! ### NOTICE and MASK (R158, R159) -/

/-- A write to NOTICE (R158). -/
def State.writeNotice (s : State) (bits : BitVec 12) : State :=
  (((s.modNotices fun u => { u with raw := u.raw &&& ~~~bits }).modPort fun p => { p with latch := false }).markDirty
    ).reconsiderUnlessOn

/-- A write to MASK (R159). -/
def State.writeMask (s : State) (bits : BitVec 12) : State :=
  ((s.modNotices fun u => { u with mask := bits }).markDirty).reconsiderUnlessOn

/-! ### Any write of the register window (R177) -/

/-- A whole write of one of the six registers. -/
def State.writeRegister (s : State) (offset : Nat) (w : Word32) : State :=
  if offset = 0x00 then s.writeOrigin fun p => { p with originLo := w }
  else if offset = 0x04 then s.writeOrigin fun p => { p with originHi := w }
  else if offset = 0x08 then s.addPosts (postValue w)
  else if offset = 0x0C then s.writeRun w
  else if offset = 0x10 then s.writeNotice (noticeBits w)
  else s.writeMask (noticeBits w)

/-- A write of some bytes at an offset of the window: ignored at 0x18 and 0x1C, refused when it is no whole aligned
register (R177, log 14). -/
def State.writeWindow (s : State) (offset : Fin 32) (bytes : Nat) (w : Word32) : State :=
  if 0x18 ≤ offset.val then s
  else if bytes = 4 ∧ offset.val % 4 = 0 then s.writeRegister offset.val w
  else s.refuseWrite

/-! ### Power-on and port reset (R176) -/

/-- The state after a power-on or port reset: every block at its power-on values, the signals as the lane layer reports
them; the queue of commands, the time and the count of messages sent are not the part's to lose (log 19, log 33). -/
def State.powerOn (s : State) : State :=
  { State.reset with
    pending := s.pending, now := s.now
    port := { SystemPort.reset with interruptsSent := s.port.interruptsSent }
    links := s.links.map fun l => LinkEngine.resetWith l.signal }

end Sys2Proof.Machine
end

