-- ==== Sys2Proof/Machine/Admission.lean ====
section
/-! DEFINITION. The meanings of the payload's load and a slot's admission (R11, R21 to R24, R54, R125). -/

namespace Sys2Proof.Machine

/-- PIECE_READ (R54, R57). -/
def execPieceRead (bytes : Option (List Byte)) (s : State) : Host.Outcome State Fault Refusal :=
  .next (State.finish s (s.pieceDone bytes))

/-- ADMISSION_REQUEST (R11). -/
def execAdmissionRequest (i : SlotId) (g : GroupId) (s : State) : Host.Outcome State Fault Refusal :=
  .next (State.finish s ((s.taken (.admissionRequest i g)).requestAdmission i g))

/-- ADMISSION_GRANTED (R22). -/
def execAdmissionGranted (i : SlotId) (d : AdmissionData) (s : State) : Host.Outcome State Fault Refusal :=
  .next (State.finish s ((s.taken (.admissionGranted i d)).openSlot i d))

/-- ADMISSION_REFUSED (R24). -/
def execAdmissionRefused (i : SlotId) (why : AdmissionRefusal) (s : State) : Host.Outcome State Fault Refusal :=
  .next (State.finish s ((s.taken (.admissionRefused i why)).refuseSlot i why))

/-- DATA_ENTRY (R125). -/
def execDataEntry (m : LinkId) (i : SlotId) (g : GroupId) (seq : Seq) (s : State) :
    Host.Outcome State Fault Refusal :=
  .next (State.finish s ((s.taken (.dataEntry m i g seq)).takeDataEntry m i g seq))

/-- LEFT_QUEUE_NOTICE (R23, R126). -/
def execLeftQueueNotice (i : SlotId) (g : GroupId) (seq : Seq) (m : LinkId) (s : State) :
    Host.Outcome State Fault Refusal :=
  .next (State.finish s ((s.taken (.leftQueueNotice i g seq m)).takeLeftQueue i g seq m))

end Sys2Proof.Machine
end

