-- ==== Sys2Proof/Machine/ChainEvents.lean ====
section
/-! DEFINITION. The meanings of the chain reader's re-checks, its report writes and the quiet reports (R91, R93, R96,
R97, R172). -/

namespace Sys2Proof.Machine

/-- SLOT_RELEASE (R91). -/
def execSlotRelease (s : State) : Host.Outcome State Fault Refusal :=
  .next (State.finish s ((s.taken .slotRelease).reCheck .slot))

/-- BLOCK_RELEASE (R91). -/
def execBlockRelease (s : State) : Host.Outcome State Fault Refusal :=
  .next (State.finish s ((s.taken .blockRelease).reCheck .store))

/-- QUARANTINE_NOTICE (R91). -/
def execQuarantineNotice (s : State) : Host.Outcome State Fault Refusal :=
  .next (State.finish s ((s.taken .quarantineNotice).reCheck .store))

/-- FROZEN_FLAGS_CLEARED (R91). -/
def execFrozenFlagsCleared (s : State) : Host.Outcome State Fault Refusal :=
  .next (State.finish s ((s.taken .frozenFlagsCleared).reCheck .frozen))

/-- BARRIER_RE_EVALUATION (R93). -/
def execBarrierReEvaluation (s : State) : Host.Outcome State Fault Refusal :=
  .next (State.finish s ((s.taken .barrierReEvaluation).reEvaluate))

/-- RESULT_AREA_WRITE (R96). -/
def execResultAreaWrite (s : State) : Host.Outcome State Fault Refusal :=
  .next (State.finish s (s.stageWritten .resultArea .outcome))

/-- OUTCOME_WRITE (R96). -/
def execOutcomeWrite (s : State) : Host.Outcome State Fault Refusal :=
  .next (State.finish s (s.stageWritten .outcome .done))

/-- DONE_WRITE (R96, R182). -/
def execDoneWrite (s : State) : Host.Outcome State Fault Refusal :=
  .next (State.finish s s.doneWritten)

/-- REPORT_WRITE_FAULT (R97). -/
def execReportWriteFault (s : State) : Host.Outcome State Fault Refusal :=
  .next (State.finish s s.reportWriteError)

/-- REPORT_RETRY_EXPIRY (R97). -/
def execReportRetryExpiry (s : State) : Host.Outcome State Fault Refusal :=
  .next (State.finish s s.reportRetry)

/-- WINDOW_EMPTY (R172). -/
def execWindowEmpty (s : State) : Host.Outcome State Fault Refusal :=
  .next (State.finish s ((s.taken .windowEmpty).testQuiet))

/-- CHAIN_QUIET (R172). -/
def execChainQuiet (s : State) : Host.Outcome State Fault Refusal :=
  .next (State.finish s ((s.taken .chainQuiet).testQuiet))

end Sys2Proof.Machine
end

