-- ==== Sys2Proof/Machine/Frames.lean ====
section
/-! DEFINITION. The meanings of received frames (R104 to R106). -/

namespace Sys2Proof.Machine

/-- Bytes the lane layer delivers (R104): discarded when a check fails, otherwise received by their kind (log 23). -/
def State.deliver (s : State) (m : LinkId) (bytes : List Byte) : State :=
  match receivedCommand m bytes with
  | .helloReply k f => s.receiveHelloReply k f
  | .ack k f => s.receiveAck k f
  | .nack k f => s.receiveNack k f
  | .epochAck k f => s.receiveEpochAck k f
  | .rejoinReply k f => s.receiveRejoinReply k f
  | .probeReply k f | .frameOfUntakenKind k f => s.receiveUnheeded k f
  | .noteReply k f => s.receiveNoteReply k f
  | _ => s

/-- FRAME_DISCARDED (R104, R105). -/
def execFrameDiscarded (m : LinkId) (bytes : List Byte) (s : State) : Host.Outcome State Fault Refusal :=
  .next (State.finish s (s.deliver m bytes))

/-- HELLO_REPLY (R116). -/
def execHelloReply (m : LinkId) (f : Frame) (s : State) : Host.Outcome State Fault Refusal :=
  .next (State.finish s (s.receiveHelloReply m f))

/-- ACK (R128). -/
def execAck (m : LinkId) (f : Frame) (s : State) : Host.Outcome State Fault Refusal :=
  .next (State.finish s (s.receiveAck m f))

/-- NACK (R129, R131). -/
def execNack (m : LinkId) (f : Frame) (s : State) : Host.Outcome State Fault Refusal :=
  .next (State.finish s (s.receiveNack m f))

/-- EPOCH_ACK (R135). -/
def execEpochAck (m : LinkId) (f : Frame) (s : State) : Host.Outcome State Fault Refusal :=
  .next (State.finish s (s.receiveEpochAck m f))

/-- REJOIN_REPLY (R150). -/
def execRejoinReply (m : LinkId) (f : Frame) (s : State) : Host.Outcome State Fault Refusal :=
  .next (State.finish s (s.receiveRejoinReply m f))

/-- PROBE_REPLY (R113). -/
def execProbeReply (m : LinkId) (f : Frame) (s : State) : Host.Outcome State Fault Refusal :=
  .next (State.finish s (s.receiveUnheeded m f))

/-- NOTE_REPLY (R137). -/
def execNoteReply (m : LinkId) (f : Frame) (s : State) : Host.Outcome State Fault Refusal :=
  .next (State.finish s (s.receiveNoteReply m f))

/-- FRAME_OF_UNTAKEN_KIND (R106). -/
def execFrameOfUntakenKind (m : LinkId) (f : Frame) (s : State) : Host.Outcome State Fault Refusal :=
  .next (State.finish s (s.receiveUnheeded m f))

end Sys2Proof.Machine
end

