-- ==== Sys2Proof/Machine/MirrorEvents.lean ====
section
/-! DEFINITION. The meanings of the status mirror's events (R162 to R164). -/

namespace Sys2Proof.Machine

/-- MIRROR_WRITE_BEGIN: it is within the events that make it due; standing alone it acts where R162's conditions hold
(log 30). -/
def execMirrorWriteBegin (s : State) : Host.Outcome State Fault Refusal :=
  .next (State.finish s s.beginMirror)

/-- MIRROR_LEADING_WRITE (R163). -/
def execMirrorLeadingWrite (s : State) : Host.Outcome State Fault Refusal :=
  .next (State.finish s s.leadingWritten)

/-- MIRROR_BODY_WRITE (R163). -/
def execMirrorBodyWrite (s : State) : Host.Outcome State Fault Refusal :=
  .next (State.finish s s.bodyWritten)

/-- MIRROR_TRAILING_WRITE (R163). -/
def execMirrorTrailingWrite (s : State) : Host.Outcome State Fault Refusal :=
  .next (State.finish s s.trailingWritten)

/-- MIRROR_WRITE_FAULT (R164). -/
def execMirrorWriteFault (s : State) : Host.Outcome State Fault Refusal :=
  .next (State.finish s s.mirrorError)

/-- INTERVAL_TIMER_EXPIRY (R162). -/
def execIntervalTimerExpiry (s : State) : Host.Outcome State Fault Refusal :=
  .next (State.finish s s.intervalExpired)

end Sys2Proof.Machine
end

