-- ==== Sys2Proof/Machine/Orders.lean ====
section
/-! DEFINITION. The meanings of the orders at their dispatch (R69 to R79). The walk dispatches an order within
TAKEN_WRITE by the same operations; a row that stands alone is the dispatch of a claimed record, step 4 of R88 (log
5). -/

namespace Sys2Proof.Machine

/-- NOP (R69). -/
def execNop (order : Addr) (_r : Record) (s : State) : Host.Outcome State Fault Refusal :=
  .next (State.finish s (s.endOrder order .ok))

/-- SETUP (R70, R71). -/
def execSetup (order : Addr) (r : Record) (s : State) : Host.Outcome State Fault Refusal :=
  .next (State.finish s (s.dispatchSetup order r.setupFields))

/-- GROUP_SET (R72). -/
def execGroupSet (order : Addr) (r : Record) (s : State) : Host.Outcome State Fault Refusal :=
  .next (State.finish s (s.dispatchGroupSet order r.groupSetFields))

/-- LINK_BIND (R73). -/
def execLinkBind (order : Addr) (r : Record) (s : State) : Host.Outcome State Fault Refusal :=
  .next (State.finish s (s.dispatchBind order r.link? r.bindTag))

/-- EXCLUDE (R74, R148). -/
def execExclude (order : Addr) (r : Record) (s : State) : Host.Outcome State Fault Refusal :=
  .next (State.finish s (s.dispatchExclude order r.link?))

/-- READMIT (R75, R149). -/
def execReadmit (order : Addr) (r : Record) (s : State) : Host.Outcome State Fault Refusal :=
  .next (State.finish s (s.dispatchReadmitOrder order r.link? r.tag))

/-- COMMIT (R77, R20). -/
def execCommit (order : Addr) (r : Record) (s : State) : Host.Outcome State Fault Refusal :=
  .next (State.finish s (s.dispatchCommit order r))

/-- BARRIER (R78, R92). -/
def execBarrier (order : Addr) (r : Record) (s : State) : Host.Outcome State Fault Refusal :=
  .next (State.finish s (s.dispatchBarrier order r.barrierTarget))

/-- NOTE (R79, R137). -/
def execNote (order : Addr) (r : Record) (s : State) : Host.Outcome State Fault Refusal :=
  .next (State.finish s (s.dispatchNote r.noteLink order r))

end Sys2Proof.Machine
end

