-- ==== Sys2Proof/Machine/Registers.lean ====
section
/-! DEFINITION. The meanings of the resets and register writes (R176 to R179). -/

namespace Sys2Proof.Machine

/-- POWER_ON_RESET (R176). -/
def execPowerOnReset (s : State) : Host.Outcome State Fault Refusal :=
  .next (State.finish s s.powerOn)

/-- PORT_RESET: the endpoint's function reset equals a power-on reset (R176). -/
def execPortReset (s : State) : Host.Outcome State Fault Refusal :=
  .next (State.finish s s.powerOn)

/-- ORIGIN_LO (R178). -/
def execOriginLo (w : Word32) (s : State) : Host.Outcome State Fault Refusal :=
  .next (State.finish s (s.writeOrigin fun p => { p with originLo := w }))

/-- ORIGIN_HI (R178). -/
def execOriginHi (w : Word32) (s : State) : Host.Outcome State Fault Refusal :=
  .next (State.finish s (s.writeOrigin fun p => { p with originHi := w }))

/-- POST (R82). -/
def execPost (w : Word32) (s : State) : Host.Outcome State Fault Refusal :=
  .next (State.finish s (s.addPosts (postValue w)))

/-- START (R169). -/
def execStart (s : State) : Host.Outcome State Fault Refusal :=
  .next (State.finish s s.startRun)

/-- QUIESCE (R170). -/
def execQuiesce (s : State) : Host.Outcome State Fault Refusal :=
  .next (State.finish s s.quiesceRun)

/-- HALT (R173). -/
def execHalt (s : State) : Host.Outcome State Fault Refusal :=
  .next (State.finish s s.haltRun)

/-- RESET (R175). -/
def execReset (s : State) : Host.Outcome State Fault Refusal :=
  .next (State.finish s s.softReset)

/-- RUN_INVALID_COMMAND: a RUN write is judged by its command field (R177). -/
def execRunInvalidCommand (w : Word32) (s : State) : Host.Outcome State Fault Refusal :=
  .next (State.finish s (s.writeRun w))

/-- NOTICE (R158). -/
def execNotice (w : Word32) (s : State) : Host.Outcome State Fault Refusal :=
  .next (State.finish s (s.writeNotice (noticeBits w)))

/-- MASK (R159). -/
def execMask (w : Word32) (s : State) : Host.Outcome State Fault Refusal :=
  .next (State.finish s (s.writeMask (noticeBits w)))

/-- REGISTER_WRITE (R177). -/
def execRegisterWrite (offset : Fin 32) (bytes : Nat) (w : Word32) (s : State) : Host.Outcome State Fault Refusal :=
  .next (State.finish s (s.writeWindow offset bytes w))

end Sys2Proof.Machine
end

