-- ==== Sys2Proof/Machine/Requests.lean ====
section
/-! DEFINITION. The meanings of the requests at the membership unit, the group table and the link engines (R8, R10,
R133, R136, R138, R143 to R145, R153). -/

namespace Sys2Proof.Machine

/-- FENCE_REQUEST (R145). -/
def execFenceRequest (m : LinkId) (cause : FenceCause) (s : State) : Host.Outcome State Fault Refusal :=
  .next (State.finish s ((s.taken (.fenceRequest m cause)).fence m cause))

/-- RETRY_NOTICE (R143). -/
def execRetryNotice (m : LinkId) (s : State) : Host.Outcome State Fault Refusal :=
  .next (State.finish s ((s.taken (.retryNotice m)).takeRetryNotice m))

/-- CLEAN_STREAK_NOTICE (R144). -/
def execCleanStreakNotice (m : LinkId) (clean : Bool) (s : State) : Host.Outcome State Fault Refusal :=
  .next (State.finish s ((s.taken (.cleanStreakNotice m clean)).takeStreak m clean))

/-- REMOVAL_REQUEST (R8). -/
def execRemovalRequest (m : LinkId) (s : State) : Host.Outcome State Fault Refusal :=
  .next (State.finish s (((s.taken (.removalRequest m)).removeMember m).excludeCheck))

/-- READMIT_ENDING (R10). -/
def execReadmitEnding (m : LinkId) (accepted : Bool) (offer : List OfferEntry) (s : State) :
    Host.Outcome State Fault Refusal :=
  .next (State.finish s ((s.taken (.readmitEnding m accepted offer)).endReadmission m accepted offer))

/-- CLOSE (R133). -/
def execClose (m : LinkId) (g : GroupId) (s : State) : Host.Outcome State Fault Refusal :=
  .next (State.finish s ((s.taken (.close m g)).closeGate m g))

/-- RELEASE (R133). -/
def execRelease (m : LinkId) (g : GroupId) (s : State) : Host.Outcome State Fault Refusal :=
  .next (State.finish s ((s.taken (.release m g)).releaseGate m g))

/-- PURGE_ON_FENCE (R138). -/
def execPurgeOnFence (m : LinkId) (s : State) : Host.Outcome State Fault Refusal :=
  .next (State.finish s (((s.taken (.purgeOnFence m)).purge m).excludeCheck))

/-- W_HAND_OVER (R136). -/
def execWHandOver (m : LinkId) (w : Nat) (s : State) : Host.Outcome State Fault Refusal :=
  .next (State.finish s ((s.taken (.wHandOver m w)).handOverW m w))

/-- FENCE_PENDING_REQUEST (R153). -/
def execFencePendingRequest (m : LinkId) (setFence : Bool) (s : State) : Host.Outcome State Fault Refusal :=
  .next (State.finish s ((s.taken (.fencePendingRequest m setFence)).requestFence m setFence))

end Sys2Proof.Machine
end

