-- ==== Sys2Proof/Machine/Timers.lean ====
section
/-! DEFINITION. The meanings of signal reports and timer expiries (R38, R116, R117, R119, R132, R134, R137, R153). -/

namespace Sys2Proof.Machine

/-- SIGNAL_PRESENT (R119). -/
def execSignalPresent (m : LinkId) (s : State) : Host.Outcome State Fault Refusal :=
  .next (State.finish s (s.signalOn m))

/-- SIGNAL_ABSENT (R119). -/
def execSignalAbsent (m : LinkId) (s : State) : Host.Outcome State Fault Refusal :=
  .next (State.finish s (s.signalOff m))

/-- HELLO_TIMER_EXPIRY (R116). -/
def execHelloTimerExpiry (m : LinkId) (s : State) : Host.Outcome State Fault Refusal :=
  .next (State.finish s (s.helloExpired m))

/-- SILENCE_TIMER_EXPIRY (R117). -/
def execSilenceTimerExpiry (m : LinkId) (s : State) : Host.Outcome State Fault Refusal :=
  .next (State.finish s (s.silenceExpired m))

/-- ACK_TIMER_EXPIRY (R132). -/
def execAckTimerExpiry (m : LinkId) (g : GroupId) (seq : Seq) (s : State) : Host.Outcome State Fault Refusal :=
  .next (State.finish s (s.ackExpired m g seq))

/-- EPOCH_TIMER_EXPIRY (R134). -/
def execEpochTimerExpiry (m : LinkId) (g : GroupId) (s : State) : Host.Outcome State Fault Refusal :=
  .next (State.finish s (s.epochExpired m g))

/-- NOTE_TIMER_EXPIRY (R137). -/
def execNoteTimerExpiry (m : LinkId) (s : State) : Host.Outcome State Fault Refusal :=
  .next (State.finish s (s.noteExpired m))

/-- REPLY_TIMER_EXPIRY (R153). -/
def execReplyTimerExpiry (m : LinkId) (s : State) : Host.Outcome State Fault Refusal :=
  .next (State.finish s (s.replyExpired m))

/-- ORDER_DEADLINE_EXPIRY (R38). -/
def execOrderDeadlineExpiry (i : SlotId) (s : State) : Host.Outcome State Fault Refusal :=
  .next (State.finish s (s.deadlineExpired i))

end Sys2Proof.Machine
end

