-- ==== Sys2Proof/Machine/Transmit.lean ====
section
/-! DEFINITION. The meanings of the transmit side and the store's frame reads (R34, R59, R124). -/

namespace Sys2Proof.Machine

/-- FRAME_GONE_OUT (R124). -/
def execFrameGoneOut (m : LinkId) (s : State) : Host.Outcome State Fault Refusal :=
  .next (State.finish s (s.frameOut m))

/-- FRAME_READ (R59, R127). -/
def execFrameRead (m : LinkId) (upsets : List Nat) (s : State) : Host.Outcome State Fault Refusal :=
  .next (State.finish s (s.frameReadDone m upsets))

/-- POISONING_REPORT (R34). -/
def execPoisoningReport (i : SlotId) (g : GroupId) (seq : Seq) (s : State) : Host.Outcome State Fault Refusal :=
  .next (State.finish s ((s.taken (.poisoningReport i g seq)).poison i g seq))

end Sys2Proof.Machine
end

