-- ==== Sys2Proof/Machine/WalkEvents.lean ====
section
/-! DEFINITION. The meanings of the walk's events (R84 to R90). -/

namespace Sys2Proof.Machine

/-- FETCH_START: it is within the events that make it due; standing alone it acts where R84's conditions hold (log
30). -/
def execFetchStart (s : State) : Host.Outcome State Fault Refusal :=
  .next (State.finish s s.fetchIfDue)

/-- NEXT_FIELD_READ (R84). -/
def execNextFieldRead (value : Option Addr) (s : State) : Host.Outcome State Fault Refusal :=
  .next (State.finish s (s.nextFieldDone value))

/-- RECORD_READ (R86). -/
def execRecordRead (bytes : Option (List Byte)) (s : State) : Host.Outcome State Fault Refusal :=
  .next (State.finish s (s.recordDone bytes))

/-- TAKEN_WRITE (R88). -/
def execTakenWrite (ok : Bool) (s : State) : Host.Outcome State Fault Refusal :=
  .next (State.finish s (s.takenDone ok))

/-- LINK_WAIT_EXPIRY (R90). -/
def execLinkWaitExpiry (s : State) : Host.Outcome State Fault Refusal :=
  .next (State.finish s s.linkWaitExpired)

/-- RE_READ (R90). -/
def execReRead (bytes : Option (List Byte)) (s : State) : Host.Outcome State Fault Refusal :=
  .next (State.finish s (s.reReadDone bytes))

end Sys2Proof.Machine
end

