-- ==== Sys2Proof/Machine/WindowEvents.lean ====
section
/-! DEFINITION. The meanings of the reports and requests at the window, and its answers (R28 to R33, R41, R130). -/

namespace Sys2Proof.Machine

/-- ACK_REPORT (R28). -/
def execAckReport (i : SlotId) (g : GroupId) (seq : Seq) (m : LinkId) (s : State) :
    Host.Outcome State Fault Refusal :=
  .next (State.finish s ((s.taken (.ackReport i g seq m)).takeAck i g seq m))

/-- RETRY_REQUEST (R29). -/
def execRetryRequest (i : SlotId) (g : GroupId) (seq : Seq) (m : LinkId) (limit : Nat) (s : State) :
    Host.Outcome State Fault Refusal :=
  .next (State.finish s ((s.taken (.retryRequest i g seq m limit)).takeRetryRequest i g seq m limit))

/-- RETRY_ANSWER (R130). -/
def execRetryAnswer (m : LinkId) (i : SlotId) (g : GroupId) (seq : Seq) (retry : Bool) (s : State) :
    Host.Outcome State Fault Refusal :=
  .next (State.finish s ((s.taken (.retryAnswer m i g seq retry)).takeRetryAnswer m i g seq retry))

/-- NACK_REPORT (R30). -/
def execNackReport (i : SlotId) (g : GroupId) (seq : Seq) (m : LinkId) (why : NackFailure) (s : State) :
    Host.Outcome State Fault Refusal :=
  .next (State.finish s ((s.taken (.nackReport i g seq m why)).takeFailure i g seq m (nackCause why)))

/-- LINK_DOWN_REPORT (R31). -/
def execLinkDownReport (i : SlotId) (g : GroupId) (seq : Seq) (m : LinkId) (s : State) :
    Host.Outcome State Fault Refusal :=
  .next (State.finish s ((s.taken (.linkDownReport i g seq m)).takeFailure i g seq m .linkDown))

/-- SLOT_MARKING (R33). -/
def execSlotMarking (m : LinkId) (s : State) : Host.Outcome State Fault Refusal :=
  .next (State.finish s (((s.taken (.slotMarking m)).markFenced m).excludeCheck))

/-- REPORT_WRITE_END (R41). -/
def execReportWriteEnd (i : SlotId) (s : State) : Host.Outcome State Fault Refusal :=
  .next (State.finish s ((s.taken (.reportWriteEnd i)).writeEnded i))

end Sys2Proof.Machine
end

