-- ==== Sys2Proof/Machine/Dispatch.lean ====
section
/-! DEFINITION. One arm per command, each a direct call of its meaning. -/

namespace Sys2Proof.Machine

def exec (i : Instr) (s : State) : Host.Outcome State Fault Refusal :=
  match i with
  | .powerOnReset => Sys2Proof.Machine.execPowerOnReset s
  | .portReset => Sys2Proof.Machine.execPortReset s
  | .originLo w => Sys2Proof.Machine.execOriginLo w s
  | .originHi w => Sys2Proof.Machine.execOriginHi w s
  | .post w => Sys2Proof.Machine.execPost w s
  | .start => Sys2Proof.Machine.execStart s
  | .quiesce => Sys2Proof.Machine.execQuiesce s
  | .halt => Sys2Proof.Machine.execHalt s
  | .reset => Sys2Proof.Machine.execReset s
  | .runInvalidCommand w => Sys2Proof.Machine.execRunInvalidCommand w s
  | .notice w => Sys2Proof.Machine.execNotice w s
  | .mask w => Sys2Proof.Machine.execMask w s
  | .registerWrite offset bytes w => Sys2Proof.Machine.execRegisterWrite offset bytes w s
  | .fetchStart => Sys2Proof.Machine.execFetchStart s
  | .nextFieldRead value => Sys2Proof.Machine.execNextFieldRead value s
  | .recordRead bytes => Sys2Proof.Machine.execRecordRead bytes s
  | .takenWrite ok => Sys2Proof.Machine.execTakenWrite ok s
  | .linkWaitExpiry => Sys2Proof.Machine.execLinkWaitExpiry s
  | .reRead bytes => Sys2Proof.Machine.execReRead bytes s
  | .nop order r => Sys2Proof.Machine.execNop order r s
  | .setup order r => Sys2Proof.Machine.execSetup order r s
  | .groupSet order r => Sys2Proof.Machine.execGroupSet order r s
  | .linkBind order r => Sys2Proof.Machine.execLinkBind order r s
  | .exclude order r => Sys2Proof.Machine.execExclude order r s
  | .readmit order r => Sys2Proof.Machine.execReadmit order r s
  | .commit order r => Sys2Proof.Machine.execCommit order r s
  | .barrier order r => Sys2Proof.Machine.execBarrier order r s
  | .note order r => Sys2Proof.Machine.execNote order r s
  | .pieceRead bytes => Sys2Proof.Machine.execPieceRead bytes s
  | .admissionRequest slot g => Sys2Proof.Machine.execAdmissionRequest slot g s
  | .admissionGranted slot d => Sys2Proof.Machine.execAdmissionGranted slot d s
  | .admissionRefused slot why => Sys2Proof.Machine.execAdmissionRefused slot why s
  | .dataEntry m slot g seq => Sys2Proof.Machine.execDataEntry m slot g seq s
  | .leftQueueNotice slot g seq m => Sys2Proof.Machine.execLeftQueueNotice slot g seq m s
  | .frameGoneOut m => Sys2Proof.Machine.execFrameGoneOut m s
  | .frameRead m upsets => Sys2Proof.Machine.execFrameRead m upsets s
  | .poisoningReport slot g seq => Sys2Proof.Machine.execPoisoningReport slot g seq s
  | .frameDiscarded m bytes => Sys2Proof.Machine.execFrameDiscarded m bytes s
  | .helloReply m f => Sys2Proof.Machine.execHelloReply m f s
  | .ack m f => Sys2Proof.Machine.execAck m f s
  | .nack m f => Sys2Proof.Machine.execNack m f s
  | .epochAck m f => Sys2Proof.Machine.execEpochAck m f s
  | .rejoinReply m f => Sys2Proof.Machine.execRejoinReply m f s
  | .probeReply m f => Sys2Proof.Machine.execProbeReply m f s
  | .noteReply m f => Sys2Proof.Machine.execNoteReply m f s
  | .signalPresent m => Sys2Proof.Machine.execSignalPresent m s
  | .signalAbsent m => Sys2Proof.Machine.execSignalAbsent m s
  | .helloTimerExpiry m => Sys2Proof.Machine.execHelloTimerExpiry m s
  | .silenceTimerExpiry m => Sys2Proof.Machine.execSilenceTimerExpiry m s
  | .ackTimerExpiry m g seq => Sys2Proof.Machine.execAckTimerExpiry m g seq s
  | .epochTimerExpiry m g => Sys2Proof.Machine.execEpochTimerExpiry m g s
  | .noteTimerExpiry m => Sys2Proof.Machine.execNoteTimerExpiry m s
  | .replyTimerExpiry m => Sys2Proof.Machine.execReplyTimerExpiry m s
  | .orderDeadlineExpiry slot => Sys2Proof.Machine.execOrderDeadlineExpiry slot s
  | .ackReport slot g seq m => Sys2Proof.Machine.execAckReport slot g seq m s
  | .retryRequest slot g seq m limit => Sys2Proof.Machine.execRetryRequest slot g seq m limit s
  | .retryAnswer m slot g seq retry => Sys2Proof.Machine.execRetryAnswer m slot g seq retry s
  | .nackReport slot g seq m why => Sys2Proof.Machine.execNackReport slot g seq m why s
  | .linkDownReport slot g seq m => Sys2Proof.Machine.execLinkDownReport slot g seq m s
  | .slotMarking m => Sys2Proof.Machine.execSlotMarking m s
  | .reportWriteEnd slot => Sys2Proof.Machine.execReportWriteEnd slot s
  | .fenceRequest m cause => Sys2Proof.Machine.execFenceRequest m cause s
  | .retryNotice m => Sys2Proof.Machine.execRetryNotice m s
  | .cleanStreakNotice m clean => Sys2Proof.Machine.execCleanStreakNotice m clean s
  | .removalRequest m => Sys2Proof.Machine.execRemovalRequest m s
  | .readmitEnding m accepted offer => Sys2Proof.Machine.execReadmitEnding m accepted offer s
  | .close m g => Sys2Proof.Machine.execClose m g s
  | .release m g => Sys2Proof.Machine.execRelease m g s
  | .purgeOnFence m => Sys2Proof.Machine.execPurgeOnFence m s
  | .wHandOver m w => Sys2Proof.Machine.execWHandOver m w s
  | .fencePendingRequest m setFence => Sys2Proof.Machine.execFencePendingRequest m setFence s
  | .slotRelease => Sys2Proof.Machine.execSlotRelease s
  | .blockRelease => Sys2Proof.Machine.execBlockRelease s
  | .quarantineNotice => Sys2Proof.Machine.execQuarantineNotice s
  | .frozenFlagsCleared => Sys2Proof.Machine.execFrozenFlagsCleared s
  | .barrierReEvaluation => Sys2Proof.Machine.execBarrierReEvaluation s
  | .resultAreaWrite => Sys2Proof.Machine.execResultAreaWrite s
  | .outcomeWrite => Sys2Proof.Machine.execOutcomeWrite s
  | .doneWrite => Sys2Proof.Machine.execDoneWrite s
  | .reportWriteFault => Sys2Proof.Machine.execReportWriteFault s
  | .reportRetryExpiry => Sys2Proof.Machine.execReportRetryExpiry s
  | .windowEmpty => Sys2Proof.Machine.execWindowEmpty s
  | .chainQuiet => Sys2Proof.Machine.execChainQuiet s
  | .mirrorWriteBegin => Sys2Proof.Machine.execMirrorWriteBegin s
  | .mirrorLeadingWrite => Sys2Proof.Machine.execMirrorLeadingWrite s
  | .mirrorBodyWrite => Sys2Proof.Machine.execMirrorBodyWrite s
  | .mirrorTrailingWrite => Sys2Proof.Machine.execMirrorTrailingWrite s
  | .mirrorWriteFault => Sys2Proof.Machine.execMirrorWriteFault s
  | .intervalTimerExpiry => Sys2Proof.Machine.execIntervalTimerExpiry s
  | .frameOfUntakenKind m f => Sys2Proof.Machine.execFrameOfUntakenKind m f s

end Sys2Proof.Machine
end

