-- ==== Sys2Proof/Machine/Step.lean ====
section
/-! DEFINITION. One step of the part: the command at the front of the queue, or, on an empty queue, what the part does
of itself. -/

namespace Sys2Proof.Machine

/-- One step. With commands waiting, the first of them acts on the state with the rest of the queue. On an empty queue
the part takes its oldest request in flight, or sends a control frame, or takes an expired timer, or lets a microsecond
pass (log 1, log 2, log 3). -/
def step (s : State) : Host.Outcome State Fault Refusal :=
  match s.pending with
  | c :: rest => exec c { s with pending := rest }
  | [] =>
    match s.ownEvent with
    | .command c => exec c s
    | .send m => .next (s.sendDue m)
    | .tick => .next s.tick

/-- The state with the command a table word spells put at the front of its queue; no word spells one (log 25). -/
def State.withFetchWord (s : State) (nbits w : Nat) : State :=
  match decodeTableWord nbits w with
  | none => s
  | some c => { s with pending := c :: s.pending }

end Sys2Proof.Machine
end

