-- ==== Sys2Proof/Safety.lean ====
section
/-! DEFINITION. What it means for a state of the part to be sound: the invariants that every step keeps, and the part of
a state that the end of an event leaves as it is. -/

namespace Sys2Proof.Machine

/-! ### Invariants -/

/-- The store's bytes are in canonical form (R48, R62). -/
def State.storeSound (s : State) : Prop := Memory.wf s.store.cells = true

/-- Pending Posts is at most 65,535 (R81). -/
def State.postsSound (s : State) : Prop := s.chain.pendingPosts ≤ Config.maxPosts

/-- A defined group's parameters lie in the ranges of R3, its quorum no larger than its defined members are many, its
state is the one its effective set derives, and its epoch is not 0 (R2, R3, R6). -/
def GroupRecord.sound (r : GroupRecord) : Prop :=
  0 < r.quorum ∧ r.quorum ≤ 8 ∧ r.quorum ≤ setCard r.defined ∧ r.retryLimit ≤ 7 ∧ 16 ≤ r.ackDeadline ∧
    0 < r.orderDeadline ∧ r.orderDeadline ≤ 4095 ∧ r.state = derivedState r.quorum r.effective ∧ r.epoch ≠ 0

/-- Every defined group is sound (R2, R3, R6). -/
def State.groupsSound (s : State) : Prop := ∀ g r, s.group g = some r → r.sound

/-- Every defined group's effective set lies within its defined members (R1). -/
def State.effectiveSound (s : State) : Prop :=
  ∀ g r, s.group g = some r → ∀ m, setHas r.effective m = true → setHas r.defined m = true

/-- An offer for a member names only groups that, where they are defined, have it among their defined members (R9). -/
def State.offerSound (s : State) (m : LinkId) (offer : List OfferEntry) : Prop :=
  ∀ e ∈ offer, ∀ r, s.group e.group = some r → setHas r.defined m = true

/-- Every offer that the next step can end accepted is sound: those of the readmits in flight, of the accepted endings
under way, and of one that stands at the front of the queue of commands (R9, R10). -/
def State.offersSound (s : State) : Prop :=
  (∀ m x, (s.member m).readmit = some x → s.offerSound m x.offer) ∧
  (∀ m offer, .readmitEnding m true offer ∈ s.inFlight → s.offerSound m offer) ∧
  (∀ m offer, s.pending.head? = some (.readmitEnding m true offer) → s.offerSound m offer)

/-- While the mirror is ON, its block lies below 2^48 (R70). -/
def State.mirrorSound (s : State) : Prop :=
  s.notices.mirrorState = .on → s.notices.mirrorBase.toNat + 511 < Config.addressLimit

/-- A clean streak stays below 8, and only a SUSPECT member has one (R142, R144). -/
def State.streaksSound (s : State) : Prop :=
  ∀ m, (s.member m).streak < 8 ∧ ((s.member m).health ≠ .suspect → (s.member m).streak = 0)

/-- No outcome of a step is a stop: the part has no faults, and no command is refused. -/
def goesOn (o : Host.Outcome State Fault Refusal) : Prop := ∃ t, o = .next t

/-! ### What the end of an event leaves as it is -/

/-- The system port without the arbiter's requests, the latch and the messages sent. -/
def SystemPort.lasting (p : SystemPort) : SystemPort :=
  { p with
    latch := false, interruptsSent := 0, waitReport := none, waitMirror := none, waitWalk := none
    waitPayload := none, current := none }

/-- The notice unit without what the beginning of a mirror write changes. -/
def NoticeUnit.lasting (u : NoticeUnit) : NoticeUnit :=
  { u with dirty := false, writeInFlight := false, intervalTimer := none, generation := 0 }

/-- The state without the arbiter's requests, the interrupt and the mirror write under way: what the end of an event
does not change, but for the transmitters' choices. -/
def State.lasting (s : State) : State := { s with port := s.port.lasting, notices := s.notices.lasting }

/-- A request has been asked of the system port: it waits at the arbiter or is in flight (R100). -/
def State.asks (s : State) (r : MemRequest) : Prop :=
  s.port.current = some r ∨ s.port.waiting r.kind.cls = some r

/-- A command completes: `exec` answers a next state, and that state is `u` with the transmitters' choices made (R123),
but for the arbiter's requests, the interrupt and the mirror write under way. -/
def Completes (c : Instr) (s u : State) : Prop := ∃ t, exec c s = .next t ∧ t.lasting = u.chooseAll.lasting

/-- A command completes as `Completes` says, and asks the system port for a request. -/
def CompletesAsking (c : Instr) (s u : State) (r : MemRequest) : Prop :=
  ∃ t, exec c s = .next t ∧ t.lasting = u.chooseAll.lasting ∧ t.asks r

end Sys2Proof.Machine
end

