-- ==== Sys2Proof/Certificates/Slice0/Obligations.lean ====
section
/-! DEFINITION. The statements for the provers. `Completes c s u` says that the command answers a next state, which is
`u` but for what every event's end may change. Where a statement writes `taken`, `send` or `inFlight`, it speaks of the
model's list of the requests and reports on their way between blocks (log 1); where it writes `now`, of the model's clock
(log 2). -/

open Sys2Proof Sys2Proof.Machine

/-! ### The queue of commands, and what the part does of itself -/

/-- A step with commands waiting is the front command on the state with the rest of the queue. -/
def Obligations.StepRunsTheFrontCommand : Prop :=
  ∀ (c : Instr) (rest : List Instr) (s : State), s.pending = c :: rest →
    step s = exec c { s with pending := rest }

/-- What a step does on an empty queue (the model's choice, log 1, log 2, log 3): the oldest request in flight, else a
control frame of the lowest link that has one built, else an expired timer, else a microsecond passes; and the control
frames as they are sent, their fields read at the send (R103, R107, R110 to R113, R124; that they are not kept from
the choice of the frame is the model's choice, log 22). An expired timer is one that runs and whose time is at or
before now; its expiry row is taken, and where none is taken no running timer has expired. A request sent joins the
tail of those under way, and a row that is such a request takes off its oldest copy. -/
def Obligations.EmptyQueueOwnEvents : Prop :=
  (∀ s : State, s.pending = [] →
    (∀ c rest, s.inFlight = c :: rest → step s = exec c s) ∧
    (s.inFlight = [] →
      (∀ m c, (s.link m).readyControl = some c → (∀ k, k < m → (s.link k).readyControl = none) →
        step s = .next (State.finish s (s.sendControl m c))) ∧
      ((∀ m, (s.link m).readyControl = none) →
        (∀ c, s.dueTimer = some c → step s = exec c s) ∧
        (s.dueTimer = none → step s = .next { s with now := s.now + 1 })))) ∧
  (∀ s : State,
    let times (c : Instr) : List Nat :=
      match c with
      | .linkWaitExpiry => s.chain.linkWaitTimer.toList
      | .reportRetryExpiry => s.chain.retryTimer.toList
      | .intervalTimerExpiry => s.notices.intervalTimer.toList
      | .helloTimerExpiry m => (s.link m).helloTimer.toList
      | .silenceTimerExpiry m => (s.link m).silenceTimer.toList
      | .ackTimerExpiry m g q =>
        ((s.link m).outstanding.filter fun o => o.group == g && o.seq == q).map Outstanding.expiry
      | .epochTimerExpiry m g => (s.link m).gates[g.val].timer.toList
      | .noteTimerExpiry m => (s.link m).noteTimer.toList
      | .replyTimerExpiry m => (s.member m).replyTimer.toList
      | .orderDeadlineExpiry i =>
        match s.slot i with
        | none => []
        | some t => if t.deadlineRunning then (t.admission.map SlotAdmission.deadline).toList else []
      | _ => []
    (∀ c, s.dueTimer = some c → (times c).any (fun t => decide (t ≤ s.now)) = true) ∧
    (s.dueTimer = none → ∀ c, (times c).all (fun t => decide (s.now < t)) = true)) ∧
  (∀ (l : LinkEngine) (c : ControlFrame),
    l.readyControl = some c ↔ l.build = some (.control c) ∧ l.sending = none) ∧
  (∀ (s : State) (c : Instr),
    s.send c = { s with inFlight := s.inFlight ++ [c] } ∧ s.taken c = { s with inFlight := s.inFlight.erase c }) ∧
  (∀ (s : State) (m : LinkId) (c : ControlFrame), s.mirrorSound → s.pending = [] → s.inFlight = [] →
    (s.link m).build = some (.control c) → (s.link m).sending = none →
    (∀ k, k < m → (s.link k).readyControl = none) →
    let l := s.link m
    let frame (kind : BitVec 4) (group : Byte) (epoch : Epoch) (sequence param : BitVec 32) (body : List Byte) : Frame :=
      { kind := kind, flags := 0, group := group, senderTag := s.notices.coordinatorTag, epoch := epoch
        sequence := sequence, param := param, body := body }
    let sent (u : State) : Prop := ∃ t, step s = .next t ∧ t.lasting = u.chooseAll.lasting
    match c with
    | .hello =>
      sent (s.setLink m { l with build := none, sending := some (frame 1 0 0 0 1 []), helloPending := false })
    | .probe =>
      sent (s.setLink m
        { l with build := none, sending := some (frame 11 0 0 0 0 []), probePending := false
                 unanswered := l.unanswered + 1 })
    | .fence =>
      sent (s.setLink m
        { l with build := none, fencePending := false
                 sending := some (frame 8 0 0 0 ((causeCode (s.member m).cause).zeroExtend 32) []) })
    | .rejoin =>
      ∀ x, (s.member m).readmit = some x →
        sent ((s.setLink m
          { l with build := none, rejoinPending := false
                   sending := some (frame 9 0 0 x.tag (BitVec.ofNat 32 x.offer.length)
                     (x.offer.flatMap OfferEntry.bytes)) }).setMember m
          { s.member m with readmit := some { x with sent := true } })
    | .epoch g =>
      ∀ r, s.group g = some r →
        let x := l.gates[g.val]
        sent (s.setLink m
          { l with build := none
                   sending := some (frame 6 (BitVec.ofNat 8 g.val) r.epoch 0 (r.effective.zeroExtend 32) [])
                   gates := l.gates.set g.val
                     { x with epochPending := false, sends := x.sends + 1, timer := some (s.now + r.ackDeadline) } })
    | .note =>
      ∀ n, l.note = some n →
        sent (s.setLink m
          { l with build := none, sending := some (frame 13 0 0 n.tag 0 n.message), notePending := false
                   note := some { n with sent := true }
                   noteTimer := some (s.now + 4 * s.notices.probeInterval) }))

/-! ### Reset -/

/-- The values the spec gives for a power-on reset, block by block; and both resets put every block at them, the
signals staying as the lane layer reports them (R16, R61, R62, R81, R114, R122, R142, R156, R167, R168, R176). The
empty queues of commands and of requests under way, and an arbiter with no request, are the model's (log 1, log 10).
So are the commands waiting, the time and the count of messages sent, which are kept, the drop of a frame in
transmission, and the values of the chain reader's working fields (log 19, log 33, log 37, log 32). -/
def Obligations.PowerOnAndPortReset : Prop :=
  (let s := State.reset
  s.port.run = .stopped ∧ s.port.originLo = 0 ∧ s.port.originHi = 0 ∧ s.port.latch = false ∧ s.port.current = none ∧
  s.port.waitReport = none ∧ s.port.waitMirror = none ∧ s.port.waitWalk = none ∧ s.port.waitPayload = none ∧
  s.chain.state = .stopped ∧ s.chain.heldReason = .none ∧ s.chain.pendingPosts = 0 ∧ s.chain.walkPointer = 0 ∧
  s.chain.anchor = false ∧ s.chain.fetchAddr = none ∧ s.chain.fetched = none ∧ s.chain.linkWaitCount = 0 ∧
  s.chain.heldBarrier = none ∧ s.chain.reports = [] ∧ s.chain.reserved = 0 ∧ s.chain.unreported = 0 ∧
  s.chain.linkWaitTimer = none ∧ s.chain.retryTimer = none ∧
  (∀ i, s.slot i = none) ∧ s.store.free = (List.range 256).map (Fin.ofNat 256) ∧ s.store.quarantine = [] ∧
  s.store.loaderQueue = [] ∧ s.store.load = none ∧ s.store.badWords = [] ∧
  (∀ b j, s.store.byte b j = 0) ∧ (∀ g, s.group g = none) ∧
  (∀ m, s.member m = { health := .fenced, streak := 0, cause := none, readmit := none, replyTimer := none }) ∧
  (∀ m,
    let l := s.link m
    l.state = .unbound ∧ l.tag = none ∧ l.w = 0 ∧ l.helloTimer = none ∧ l.silenceTimer = none ∧ l.heard = false ∧
    l.unanswered = 0 ∧ l.helloPending = false ∧ l.probePending = false ∧ l.fencePending = false ∧
    l.rejoinPending = false ∧ l.notePending = false ∧ l.queue = [] ∧ l.build = none ∧ l.outstanding = [] ∧
    l.credits = 0 ∧ l.note = none ∧ l.noteTimer = none ∧
    ∀ g : GroupId, l.gates[g.val] = { awaiting := false, epochPending := false, timer := none, sends := 0 }) ∧
  s.notices =
    { raw := 0, mask := 0, doneTally := 0, mirrorState := .off, mirrorBase := 0, mirrorInterval := 0, generation := 0
      dirty := true, writeInFlight := false, intervalTimer := none, coordinatorTag := 0, probeInterval := 1000 } ∧
  s.pending = [] ∧ s.inFlight = []) ∧
  ∀ s : State,
    let unbound := State.reset.link 0
    let u : State :=
      { State.reset with
        pending := s.pending, now := s.now
        port := { State.reset.port with interruptsSent := s.port.interruptsSent }
        links := s.links.map fun l => { unbound with signal := l.signal } }
    exec .powerOnReset s = .next u ∧ exec .portReset s = .next u

/-! ### The register window -/

/-- An ORIGIN write is accepted in STOPPED and QUIESCED and refused otherwise; the other writes that change nothing
but raise REFUSED, and the ones that are ignored (R85, R170, R177, R178; a part of a word at 18h or 1Ch is the model's
choice, log 14). -/
def Obligations.OriginAndTurnedAwayWrites : Prop :=
  (∀ (w : Word32) (s : State), s.mirrorSound →
    let chain : ChainReader :=
      { s.chain with
        pendingPosts := 0, anchor := false, unreported := 0
        state := if s.chain.state = .idle ∨ s.chain.state = .faulted then .stopped else s.chain.state }
    if s.port.run = .stopped ∨ s.port.run = .quiesced then
      Completes (.originLo w) s { s with port := { s.port with originLo := w }, chain := chain } ∧
      Completes (.originHi w) s { s with port := { s.port with originHi := w }, chain := chain }
    else Completes (.originLo w) s (s.raise .refused) ∧ Completes (.originHi w) s (s.raise .refused)) ∧
  (∀ s : State, s.mirrorSound →
    (s.port.run = .stopped ∨ s.port.run = .halted → Completes .quiesce s (s.raise .refused)) ∧
    (s.port.run = .quiescing ∨ s.port.run = .quiesced → Completes .quiesce s s) ∧
    (∀ w : Word32, w.toNat % 16 = 0 ∨ 5 ≤ w.toNat % 16 → Completes (.runInvalidCommand w) s (s.raise .refused)) ∧
    (∀ (offset : Fin 32) (bytes : Nat) (w : Word32), 0x18 ≤ offset.val →
      Completes (.registerWrite offset bytes w) s s) ∧
    (∀ (offset : Fin 32) (bytes : Nat) (w : Word32), offset.val < 0x18 → (bytes ≠ 4 ∨ offset.val % 4 ≠ 0) →
      Completes (.registerWrite offset bytes w) s (s.raise .refused))) ∧
  (∀ (w : Word32) (s : State),
    exec (.registerWrite 0x00 4 w) s = exec (.originLo w) s ∧ exec (.registerWrite 0x04 4 w) s = exec (.originHi w) s ∧
    exec (.registerWrite 0x08 4 w) s = exec (.post w) s ∧ exec (.registerWrite 0x10 4 w) s = exec (.notice w) s ∧
    exec (.registerWrite 0x14 4 w) s = exec (.mask w) s ∧
    exec (.registerWrite 0x0C 4 w) s = exec (.runInvalidCommand w) s ∧
    (w.toNat % 16 = 1 → exec (.runInvalidCommand w) s = exec .start s) ∧
    (w.toNat % 16 = 2 → exec (.runInvalidCommand w) s = exec .quiesce s) ∧
    (w.toNat % 16 = 3 → exec (.runInvalidCommand w) s = exec .halt s) ∧
    (w.toNat % 16 = 4 → exec (.runInvalidCommand w) s = exec .reset s))

/-- A POST adds bits 9 to 0 of the word; a sum above 65,535 is a chain fault; a fetch starts where R84 has it start. A
chain fault raises CHAIN_FAULT and enters FAULTED: from FAULTED nothing changes, after an issued TAKEN write the entry
waits for its claim, and otherwise the walk stops and the chain is FAULTED at once (R82, R84, R89, R98). The fate of a
walk request not yet issued, and the working values, are the model's choice (log 11, log 32). -/
def Obligations.PostAddsToPendingPosts : Prop :=
  (∀ (w : Word32) (s : State), s.mirrorSound →
    let n := w.toNat % 1024
    let sum := s.chain.pendingPosts + n
    let with_ (p : Nat) : State := { s with chain := { s.chain with pendingPosts := p } }
    if n = 0 then Completes (.post w) s s
    else if sum ≤ 65535 then Completes (.post w) s (with_ sum).fetchIfDue
    else if s.port.run = .halted then Completes (.post w) s ((with_ 65535).raise .chainFault)
    else Completes (.post w) s ((with_ 65535).raise .chainFault).enterFaulted) ∧
  (∀ u : State,
    let c := u.chain
    let claims : Prop := ∃ r, u.port.current = some r ∧ r.kind = .takenWrite ∧ r.abandoned = false
    let place : Prop := c.walk = .nextField ∨ c.walk = .record ∨ c.walk = .reRead ∨ c.walk = .takenWrite
    u.chainFault = (u.raise .chainFault).enterFaulted ∧
    u.enterFaulted =
      if c.state = .faulted then u
      else if claims then { u with chain := { c with faultDue := true } }
      else
        { u with
          chain :=
            { c with
              state := .faulted, linkWaitTimer := none, fetchAddr := none, fetched := none
              heldReason := if c.heldReason = .barrier then .barrier else .none
              reserved := if place then c.reserved - 1 else c.reserved
              walk := if c.walk = .dispatching then .dispatching else .idle }
          port :=
            { u.port with
              waitWalk := none
              current := u.port.current.map fun r =>
                if r.kind.cls = .walk then { r with abandoned := true } else r } })

/-- A START with an aligned, nonzero ORIGIN is taken in STOPPED, unless the chain is FAULTED, and in QUIESCED; any
other is refused (R85, R169). -/
def Obligations.StartTakenOrRefused : Prop :=
  ∀ s : State, s.mirrorSound →
    let origin : Addr := s.port.originHi ++ s.port.originLo
    let running : State := { s with port := { s.port with run := .running } }
    if origin ≠ 0 ∧ origin.toNat % 128 = 0 ∧
        ((s.port.run = .stopped ∧ s.chain.state ≠ .faulted) ∨ s.port.run = .quiesced) then
      if s.port.run = .stopped ∨ s.chain.state = .stopped then
        Completes .start s
          { running with chain := { s.chain with walkPointer := origin, anchor := false, state := .idle } }.fetchIfDue
      else Completes .start s running.fetchIfDue
    else Completes .start s (s.raise .refused)

/-- A QUIESCE in RUNNING: the walk stops unless it is past its TAKEN write's issue, and the quiet condition is tested.
A walk read in flight is given up, its result to be discarded, and a walk request that waits is withdrawn. The reports
that may complete a QUIESCE, and the ends of exchanges: in QUIESCING a part that is quiet becomes QUIESCED with
RUN_CHANGE, and in any other case they change nothing (R168, R170 to R172). What becomes of a walk request not yet
issued, and of the working values, is the model's choice (log 11, log 32). -/
def Obligations.QuiesceToQuiesced : Prop :=
  (∀ s : State, s.mirrorSound → s.port.run = .running →
    let c := s.chain
    let q : State := { s with port := { s.port with run := .quiescing } }
    let place : Prop := c.walk = .nextField ∨ c.walk = .record ∨ c.walk = .reRead ∨ c.walk = .takenWrite
    let stopped : ChainReader :=
      { c with
        linkWaitTimer := none, heldReason := if c.heldReason = .barrier then .barrier else .none
        reserved := if place then c.reserved - 1 else c.reserved
        fetchAddr := none, fetched := none, walk := .idle, state := .idle, linkWaitCount := 0 }
    let leaves : Prop :=
      (∃ r, s.port.current = some r ∧ r.kind = .takenWrite ∧ r.abandoned = false) ∨ c.walk = .dispatching ∨
        c.heldBarrier.isSome ∨ c.state = .idle ∨ c.state = .faulted ∨ c.state = .stopped
    ∃ t, exec .quiesce s = .next t ∧
      (leaves → t.lasting = q.testQuiet.chooseAll.lasting ∧
        ∀ r, s.port.current = some r → t.port.current = some r ∧ t.port.waitWalk = s.port.waitWalk) ∧
      (¬ leaves → t.lasting = ({ q with chain := stopped }.testQuiet).chooseAll.lasting ∧ t.port.waitWalk = none ∧
        ∀ r, s.port.current = some r →
          t.port.current = some (if r.kind.cls = .walk then { r with abandoned := true } else r))) ∧
  (∀ s : State, s.mirrorSound →
    Completes .windowEmpty s (s.taken .windowEmpty).testQuiet ∧
    Completes .chainQuiet s (s.taken .chainQuiet).testQuiet) ∧
  (∀ u : State,
    let quiet : Prop :=
      (∀ i, u.slot i = none) ∧ u.chain.reports = [] ∧ u.chain.walk ≠ .takenWrite ∧ u.chain.walk ≠ .dispatching ∧
        u.chain.heldBarrier = none ∧ ∀ m, (u.member m).readmit = none ∧ (u.link m).note = none
    (u.port.run = .quiescing → quiet →
      u.testQuiet = { u with port := { u.port with run := .quiesced } }.raise .runChange) ∧
    (u.port.run ≠ .quiescing ∨ ¬ quiet → u.testQuiet = u))

/-- HALT: in HALTED it changes nothing; otherwise every block abandons its work. The chain reader stops with its
report queue empty, the slots are freed and their blocks go to the free list in slot order, each group counts no slot
of its own and its settle mark is its next sequence, the loader stops, the readmits and NOTEs in flight are dropped,
every member in service is fenced with cause RESET and its fence's requests are sent, the link engines are emptied,
and the waiting requests of classes 1, 3 and 4 are removed (R18, R46, R52, R58, R89, R100, R102, R140, R154, R155,
R173). That an EXCLUDE under way is dropped, that the admission requests under way are taken first, and that the
readmits' endings are sent before the fences' requests, are the model's choices (log 6, log 35, log 28); so are the
values that the chain reader's working fields are left with (log 32), the clock and the queue of commands (log 1, log
2). -/
def Obligations.HaltAbandonsWork : Prop :=
  ∀ s : State, s.mirrorSound →
    let inService (m : LinkId) : Prop := (s.member m).health ≠ .fenced
    let admitted : State := s.inFlight.foldl (fun u c =>
      match c with
      | .admissionRequest i g => (u.taken c).requestAdmission i g
      | _ => u) s
    (s.port.run = .halted → Completes .halt s s) ∧
    (s.port.run ≠ .halted → ∃ t, exec .halt s = .next t ∧
      t.port.run = .halted ∧ t.port.originLo = s.port.originLo ∧ t.port.originHi = s.port.originHi ∧
      t.port.waitReport = none ∧ t.port.waitWalk = none ∧ t.port.waitPayload = none ∧
      (∀ r, s.port.current = some r →
        t.port.current = some (if r.kind.cls = .mirror then r else { r with abandoned := true })) ∧
      (s.notices.writeInFlight = true → ∀ r, s.port.waitMirror = some r →
        t.port.current = some r ∨ t.port.waitMirror = some r) ∧
      t.notices.raw = s.notices.raw ||| Notice.runChange.flag |||
        (if ∃ m, inService m then Notice.memberChange.flag else 0) ∧
      t.notices.doneTally = s.notices.doneTally ∧ t.notices.mask = s.notices.mask ∧
      t.notices.mirrorState = s.notices.mirrorState ∧
      t.chain =
        { s.chain with
          state := .stopped, heldReason := .none, fetchAddr := none, fetched := none, linkWaitCount := 0
          heldBarrier := none, reports := [], reserved := 0, walk := .idle, linkWaitTimer := none, reporter := .idle
          retryUsed := false, retryTimer := none, faultDue := false, excluding := none } ∧
      (∀ i, t.slot i = none) ∧
      t.store =
        { s.store with
          loaderQueue := [], load := none
          free := s.store.free ++ allSlots.flatMap fun i =>
            match s.slot i with
            | none => []
            | some x => x.blocks.filter fun b => !s.store.quarantine.contains b } ∧
      (∀ g,
        let used := allSlots.countP fun i => (s.slot i).any fun x => x.group == g
        t.group g = (admitted.group g).map fun r =>
          { r with slotsInUse := r.slotsInUse - used, settle := if used = 0 then r.settle else r.next }) ∧
      (∀ m,
        let r := s.member m
        t.member m =
          { health := .fenced, readmit := none
            streak := if inService m then 0 else r.streak
            cause := if inService m then some .reset else r.cause
            replyTimer := if r.readmit.isSome then none else r.replyTimer }) ∧
      (∀ m,
        let l := s.link m
        t.link m = LinkEngine.choose
          { l with
            queue := [], build := none, outstanding := [], credits := l.w, rejoinPending := false
            notePending := false, note := none, noteTimer := none
            gates := Vector.replicate 16 { awaiting := false, epochPending := false, timer := none, sends := 0 } }
          .fenced) ∧
      t.inFlight = admitted.inFlight ++
        (allLinks.flatMap fun m =>
          match (s.member m).readmit with
          | none => []
          | some x => [Instr.readmitEnding m false x.offer]) ++
        (allLinks.flatMap fun m =>
          if inService m then [Instr.removalRequest m, .slotMarking m, .purgeOnFence m] else []) ∧
      t.pending = s.pending ∧ t.now = s.now)

/-- RESET: the abandonment, in which the group table and the link engines take the requests of the fences, and then
every block's soft-reset initialization. Each defined group keeps its parameters and takes the epoch's successor once
for each member that its effective set loses and once for the initialization; the links keep their W with full
credits, FENCE-pending and their link-level timers; ORIGIN, the mask, the tally, the walk pointer, the bytes of the
store, the mirror interval and SETUP's other values stay, and the dirty flag is set (R6, R17, R62, R141, R156, R166,
R167, R173, R175). The order of the parts of a RESET, the membership unit's requests under way at it, the answers to
admission requests, the count of messages sent, and the values of the chain reader's working fields are the model's
(log 15, log 35, log 17, log 32). -/
def Obligations.ResetReinitializes : Prop :=
  ∀ s : State,
    let n := s.notices
    let inService (m : LinkId) : Prop := (s.member m).health ≠ .fenced
    let admitted : State := s.inFlight.foldl (fun u c =>
      match c with
      | .admissionRequest i g => (u.taken c).requestAdmission i g
      | _ => u) s
    let successor (e : Epoch) : Epoch := if e = 0xFFFF then 1 else e + 1
    let underWay (p : Instr → Bool) : Prop := s.inFlight.any p = true
    let runChanged : Prop := Notice.runChange.flag &&& ~~~n.mask ≠ 0
    let memberChanged : Prop :=
      (∃ m, inService m) ∧ Notice.memberChange.flag &&& ~~~(n.mask ||| n.raw) ≠ 0
    ∃ t, exec .reset s = .next t ∧
      t.port =
        { s.port with
          run := .stopped, latch := decide runChanged, interruptsSent := t.port.interruptsSent, waitReport := none
          waitMirror := none, waitWalk := none, waitPayload := none
          current := s.port.current.map fun r => { r with abandoned := true } } ∧
      (n.mirrorState = .on ∨ s.port.latch = true →
        t.port.interruptsSent = s.port.interruptsSent + if runChanged then 1 else 0) ∧
      (n.mirrorState ≠ .on → s.port.latch = false → memberChanged →
        t.port.interruptsSent = s.port.interruptsSent + 1 + if runChanged then 1 else 0) ∧
      t.chain = { ChainReader.reset with walkPointer := s.chain.walkPointer } ∧ (∀ i, t.slot i = none) ∧
      t.store =
        { s.store with
          free := (List.range 256).map (Fin.ofNat 256), quarantine := [], loaderQueue := [], load := none } ∧
      (∀ g, s.group g = none → t.group g = none) ∧
      (∀ g r, admitted.group g = some r → ∃ r', t.group g = some r' ∧
        r' =
          { r with
            effective := 0, state := .stalled, frozen := false, slotsInUse := 0, settle := r.next, epoch := r'.epoch } ∧
        (¬ (underWay fun c => match c with | .removalRequest _ | .readmitEnding _ true _ => true | _ => false) →
          r'.epoch =
            Nat.repeat successor
              (1 + allLinks.countP fun m => r.effective.getLsbD m.val && decide (inService m)) r.epoch)) ∧
      (∀ m, t.member m = { health := .fenced, streak := 0, readmit := none, replyTimer := none
                           cause := if inService m then some .reset else (s.member m).cause }) ∧
      (∀ m,
        let l := s.link m
        let u := t.link m
        u = LinkEngine.choose
          { l with
            queue := [], build := none, outstanding := [], w := u.w, credits := u.w, fencePending := u.fencePending
            rejoinPending := false, notePending := false, note := none, noteTimer := none
            gates := Vector.replicate 16 { awaiting := false, epochPending := false, timer := none, sends := 0 } }
          .fenced ∧
        (¬ (underWay fun c => match c with | .wHandOver k _ => k == m | _ => false) → u.w = l.w) ∧
        (¬ (underWay fun c =>
            match c with
            | .fencePendingRequest k _ | .purgeOnFence k => k == m
            | _ => false) →
          u.fencePending = (l.fencePending || decide (inService m ∧ l.state = .up)))) ∧
      t.notices =
        { n with
          raw := Notice.runChange.flag, mirrorState := .off, mirrorBase := 0, dirty := true, intervalTimer := none
          writeInFlight := n.writeInFlight && s.port.current.any fun r => r.kind.cls == .mirror } ∧
      t.inFlight = [] ∧ t.pending = s.pending ∧ t.now = s.now

/-- A NOTICE write clears the raw notices its word names and the latch; a MASK write replaces the mask. A raise sets
its notice's flag, at its bit of the notices, and a change of the raw notices marks the mirror dirty. Where no mirror
is kept both writes, and a raise that changes the active notices, are points at which the interrupt is reconsidered
(R157 to R159, R166). -/
def Obligations.NoticeAndMaskWrites : Prop :=
  (∀ (w : Word32) (s : State), s.mirrorSound →
    let bits := w.setWidth 12
    let off := s.notices.mirrorState ≠ .on
    let raw := s.notices.raw &&& ~~~bits
    (∃ t, exec (.notice w) s = .next t ∧
      t.lasting = ({ s with notices := { s.notices with raw := raw } }.chooseAll).lasting ∧
      t.port.latch = (decide off && raw &&& ~~~s.notices.mask != 0)) ∧
    (∃ t, exec (.mask w) s = .next t ∧
      t.lasting = ({ s with notices := { s.notices with mask := bits } }.chooseAll).lasting ∧
      t.port.latch = (s.port.latch || decide off && s.notices.raw &&& ~~~bits != 0))) ∧
  (∀ (s : State) (n : Notice),
    let u := s.raise n
    let before := s.notices.raw &&& ~~~s.notices.mask
    let raw := s.notices.raw ||| n.flag
    let now := raw &&& ~~~s.notices.mask
    u.lasting = { s with notices := { s.notices with raw := raw } }.lasting ∧
    u.notices.dirty = (s.notices.dirty || raw != s.notices.raw) ∧
    u.port.latch = (s.port.latch || s.notices.mirrorState != .on && now != before && now != 0)) ∧
  [Notice.done, .chainFault, .runChange, .linkChange, .memberChange, .groupStall, .origin, .stray, .storeFault,
    .systemFault, .refused, .catchUp].map Notice.flag =
    [0x001, 0x002, 0x004, 0x008, 0x010, 0x020, 0x040, 0x080, 0x100, 0x200, 0x400, 0x800]

/-! ### The walk -/

/-- A chain fault: CHAIN_FAULT is raised and the chain is FAULTED, the walk stopped; the faults of the anchor's next
field, a null one, and the read it leads to (R84, R98, R180). The width of an address and the working values left
behind are the model's (log 9, log 32). -/
def Obligations.NextFieldRead : Prop :=
  ∀ (s : State) (q : MemRequest) (value : Option Addr), s.mirrorSound → s.port.current = some q →
    q.kind = .nextField → q.abandoned = false →
    let c := s.chain
    let reads : Prop := c.walk = .nextField ∨ c.walk = .record ∨ c.walk = .reRead ∨ c.walk = .takenWrite
    let place := if reads then c.reserved - 1 else c.reserved
    let faulted : ChainReader :=
      { c with
        state := .faulted, linkWaitTimer := none, reserved := place
        heldReason := if c.heldReason = .barrier then .barrier else .none
        fetchAddr := none, fetched := none, walk := if c.walk = .dispatching then .dispatching else .idle }
    let fault : State := { s with chain := if c.state = ChainState.faulted then c else faulted }.raise .chainFault
    match value with
    | none => Completes (.nextFieldRead none) s fault
    | some v =>
      if v = 0 then
        Completes (.nextFieldRead (some v)) s
          { s with chain :=
              { c with
                state := .linkWait, reserved := c.reserved - 1, linkWaitCount := 0, waitingFor := .link, walk := .idle
                linkWaitTimer := some (s.now + 8) } }
      else if v.toNat % 128 ≠ 0 ∨ 2 ^ 48 ≤ v.toNat then Completes (.nextFieldRead (some v)) s fault
      else
        CompletesAsking (.nextFieldRead (some v)) s
          { s with chain := { c with state := .fetching, fetchAddr := some v, walk := .record } }
          { kind := .record, addr := v, len := 128, data := [], abandoned := false }

/-- The start of a fetch: in IDLE and RUNNING with posts pending a place is taken and the first read is asked for;
with no place free the walk waits in FETCHING (R84, R101). That the row changes nothing where these conditions fail,
and the width of an address, are the model's (log 30, log 9). -/
def Obligations.FetchStart : Prop :=
  ∀ s : State, s.mirrorSound →
    let c := s.chain
    let a := c.walkPointer
    if c.state = .idle ∧ s.port.run = .running ∧ 0 < c.pendingPosts then
      if 64 ≤ c.reserved then
        Completes .fetchStart s { s with chain := { c with state := .fetching, walk := .awaitFetch } }
      else if c.anchor then
        let u : State := { s with chain := { c with state := .fetching, reserved := c.reserved + 1, walk := .nextField } }
        if (a + 8).toNat + 7 < 2 ^ 48 then
          CompletesAsking .fetchStart s u
            { kind := .nextField, addr := a + 8, len := 8, data := [], abandoned := false }
        else Completes .fetchStart s u.chainFault
      else
        let u : State :=
          { s with chain :=
              { c with state := .fetching, reserved := c.reserved + 1, fetchAddr := some a, walk := .record } }
        if a.toNat + 127 < 2 ^ 48 then
          CompletesAsking .fetchStart s u { kind := .record, addr := a, len := 128, data := [], abandoned := false }
        else Completes .fetchStart s u.chainFault
    else Completes .fetchStart s s

/-- A record read whole: not POSTED, the walk waits for the post; held, the first hold of R87 that applies is the
reason; otherwise the TAKEN write is asked for at the record; and so for a record read again in a link wait (R86 to
R88, R90). The working values left behind are the model's (log 32). -/
def Obligations.RecordReadJudged : Prop :=
  (∀ (s : State) (q : MemRequest) (bytes : List Byte), s.mirrorSound → s.port.current = some q →
    q.kind = .record → q.abandoned = false →
    let r := Record.ofBytes bytes
    let c := s.chain
    let a := c.fetchAddr.getD c.walkPointer
    let frozen (g : GroupId) : Bool := (s.group g).any fun x => x.frozen
    let held (reason : HeldReason) : State :=
      { s with chain :=
          { c with state := .held, heldReason := reason, fetched := some r, reserved := c.reserved - 1, walk := .idle } }
    Completes (.recordRead none) s s.freeResource.chainFault ∧
    (r.state ≠ 0x01 → Completes (.recordRead (some bytes)) s
      { s with chain :=
          { c with
            state := .linkWait, fetched := some r, reserved := c.reserved - 1, linkWaitCount := 0, waitingFor := .post
            walk := .idle, linkWaitTimer := some (s.now + 8) } }) ∧
    (r.state = 0x01 →
      if r.kind = 0x10 ∧ ∀ i, (s.slot i).isSome then Completes (.recordRead (some bytes)) s (held .slot)
      else if ((r.kind = 0x10 ∨ r.kind = 0x03 ∨ r.kind = 0x11) ∧ ∃ g : GroupId, (r.byte 0x10).toNat = g.val ∧ frozen g) ∨
          (r.kind = 0x11 ∧ r.byte 0x10 = 0xFF ∧ ∃ g, frozen g) then Completes (.recordRead (some bytes)) s (held .frozen)
      else if r.kind = 0x10 ∧ s.store.fit r.payloadLength = .wait then
        Completes (.recordRead (some bytes)) s (held .store)
      else if a.toNat < 2 ^ 48 then CompletesAsking (.recordRead (some bytes)) s
        { s with chain := { c with state := .fetching, fetched := some r, walk := .takenWrite } }
        { kind := .takenWrite, addr := a, len := 1, data := [0x02], abandoned := false }
      else Completes (.recordRead (some bytes)) s
        ({ s.freeResource with
            chain := { c with state := .fetching, fetched := some r, walk := .takenWrite } }).chainFault)) ∧
  (∀ (u : State) (r : Record),
    let c := u.chain
    let a := c.fetchAddr.getD c.walkPointer
    let held (reason : HeldReason) : State :=
      { u with chain := { c with state := .held, heldReason := reason, reserved := c.reserved - 1, walk := .idle } }
    let taking : State := { u with chain := { c with state := .fetching, walk := .takenWrite } }
    let write : MemRequest := { kind := .takenWrite, addr := a, len := 1, data := [0x02], abandoned := false }
    u.holdOrTake r =
      if u.holdApplies r .slot then held .slot
      else if u.holdApplies r .frozen then held .frozen
      else if u.holdApplies r .store then held .store
      else if a.toNat < 2 ^ 48 then { taking with port := { u.port with waitWalk := some write } }
      else taking.chainFault) ∧
  (∀ (u : State) (r : Record),
    let frozen (g : GroupId) : Bool := (u.group g).any fun x => x.frozen
    let named : Prop :=
      ((r.kind = 0x10 ∨ r.kind = 0x03 ∨ r.kind = 0x11) ∧ ∃ g : GroupId, (r.byte 0x10).toNat = g.val ∧ frozen g) ∨
        (r.kind = 0x11 ∧ r.byte 0x10 = 0xFF ∧ ∃ g, frozen g)
    (u.holdApplies r .slot = true ↔ r.kind = 0x10 ∧ ∀ i, (u.slot i).isSome = true) ∧
    (u.holdApplies r .frozen = true ↔ named) ∧
    (u.holdApplies r .store = true ↔ r.kind = 0x10 ∧ u.store.fit r.payloadLength = .wait))

/-- The claim: with the TAKEN write done Pending Posts falls by one, the walk pointer moves to the record, which
becomes the anchor, CATCH_UP is raised at 0, and the fetched copy is dispatched: by the operation its kind's row runs,
or with BAD_KIND for a kind that has none. The walk then goes on, unless an EXCLUDE is under way: a fault that was due
is entered, FAULTED and STOPPED stay, a held BARRIER holds the walk, and otherwise it is IDLE and fetches where a
fetch is due. A failed TAKEN write is a chain fault (R66, R83, R84, R88, R89, R92). That claim, validation and
dispatch are one event, and the working values left behind, are the model's (log 5, log 32). -/
def Obligations.TakenWriteClaims : Prop :=
  (∀ (s : State) (q : MemRequest) (r : Record), s.mirrorSound → s.port.current = some q → q.kind = .takenWrite →
    q.abandoned = false → s.chain.fetched = some r →
    let c := s.chain
    let a := c.fetchAddr.getD c.walkPointer
    let claimed : State :=
      { s.freeResource with chain :=
          { c with
            pendingPosts := c.pendingPosts - 1, walkPointer := a, anchor := true, linkWaitCount := 0, fetchAddr := none
            fetched := none, walk := .dispatching } }
    let reached := if c.pendingPosts ≤ 1 then claimed.raise .catchUp else claimed
    (∃ t, exec (.takenWrite true) s = .next t ∧ t.chain.walkPointer = a ∧ t.chain.anchor = true ∧
      t.chain.pendingPosts = c.pendingPosts - 1 ∧
      t = State.finish s ((reached.dispatch a r).afterDispatch.reportQuiet)) ∧
    Completes (.takenWrite false) s
      ({ s.freeResource with chain := { c with faultDue := false } }.chainFault.reportQuiet)) ∧
  (∀ (u : State) (a : Addr) (r : Record),
    let runs (c : Instr) : Prop := exec c u = .next (State.finish u (u.dispatch a r))
    (r.kind = 0x01 → runs (.nop a r)) ∧ (r.kind = 0x02 → runs (.setup a r)) ∧
    (r.kind = 0x03 → runs (.groupSet a r)) ∧ (r.kind = 0x04 → runs (.linkBind a r)) ∧
    (r.kind = 0x05 → runs (.exclude a r)) ∧ (r.kind = 0x06 → runs (.readmit a r)) ∧
    (r.kind = 0x10 → runs (.commit a r)) ∧ (r.kind = 0x11 → runs (.barrier a r)) ∧
    (0x20 ≤ r.kind → r.kind ≤ 0x27 → runs (.note a r)) ∧
    (r.kind = 0x00 ∨ (0x07 ≤ r.kind ∧ r.kind ≤ 0x0F) ∨ (0x12 ≤ r.kind ∧ r.kind ≤ 0x1F) ∨ 0x28 ≤ r.kind →
      u.dispatch a r = u.reportOrder a .badKind .zero)) ∧
  (∀ u : State,
    let idle (c : ChainReader) : ChainReader := { c with walk := .idle }
    u.afterDispatch =
      if u.chain.excluding.isSome then u
      else if u.chain.faultDue then { u with chain := { idle u.chain with state := .faulted, faultDue := false } }
      else if u.chain.state = .faulted ∨ u.chain.state = .stopped then { u with chain := idle u.chain }
      else if u.chain.heldBarrier.isSome then { u with chain := { idle u.chain with state := .held } }
      else { u with chain := { idle u.chain with state := .idle } }.fetchIfDue)

/-- The link wait. The timer's expiry asks for the re-read, of the anchor's next field or of the record, when a place
is free. A re-read that finds null or not POSTED waits again, up to the 16th, which is a chain fault; a read in error
is one too, each of them counted; otherwise the walk goes on as after the first read (R90). An expiry with no timer
running is the model's choice (log 4), the clock log 2. -/
def Obligations.LinkWaitTurns : Prop :=
  (∀ s : State, s.mirrorSound →
    let c := s.chain
    match c.linkWaitTimer with
    | none => Completes .linkWaitExpiry s s
    | some t =>
      let u : State := { s with now := max s.now t, chain := { c with linkWaitTimer := none } }
      if 64 ≤ c.reserved then
        Completes .linkWaitExpiry s { u with chain := { u.chain with walk := .awaitReRead } }
      else
        let v : State := { u with chain := { u.chain with walk := .reRead, reserved := c.reserved + 1 } }
        let r : MemRequest :=
          match c.waitingFor with
          | .link => { kind := .reRead, addr := c.walkPointer + 8, len := 8, data := [], abandoned := false }
          | .post =>
            { kind := .reRead, addr := c.fetchAddr.getD c.walkPointer, len := 128, data := [], abandoned := false }
        if r.addr.toNat + r.len - 1 < 2 ^ 48 then CompletesAsking .linkWaitExpiry s v r
        else Completes .linkWaitExpiry s v.chainFault) ∧
  (∀ (s : State) (q : MemRequest) (bytes : List Byte), s.mirrorSound → s.port.current = some q → q.kind = .reRead →
    q.abandoned = false →
    let counted : State :=
      { s.freeResource with chain := { s.chain with linkWaitCount := s.chain.linkWaitCount + 1 } }
    let again (u : State) : State :=
      { u with chain :=
          { u.chain with reserved := s.chain.reserved - 1, walk := .idle, linkWaitTimer := some (s.now + 8) } }
    let v : Addr := BitVec.ofNat 64 (ofLE (bytes.take 8))
    let r := Record.ofBytes bytes
    Completes (.reRead none) s counted.chainFault ∧
    (s.chain.waitingFor = .link →
      if v = 0 then
        if s.chain.linkWaitCount + 1 < 16 then Completes (.reRead (some bytes)) s (again counted)
        else Completes (.reRead (some bytes)) s counted.chainFault
      else if v.toNat % 128 ≠ 0 ∨ 2 ^ 48 ≤ v.toNat then Completes (.reRead (some bytes)) s counted.chainFault
      else CompletesAsking (.reRead (some bytes)) s
        { s with chain := { s.chain with state := .fetching, linkWaitCount := 0, fetchAddr := some v, walk := .record } }
        { kind := .record, addr := v, len := 128, data := [], abandoned := false }) ∧
    (s.chain.waitingFor = .post →
      let kept : State := { counted with chain := { counted.chain with fetched := some r } }
      if r.state ≠ 0x01 then
        if s.chain.linkWaitCount + 1 < 16 then Completes (.reRead (some bytes)) s (again kept)
        else Completes (.reRead (some bytes)) s kept.chainFault
      else Completes (.reRead (some bytes)) s
        ({ kept with chain := { kept.chain with state := .fetching, linkWaitCount := 0 } }.holdOrTake r)))

/-! ### Orders and their reports -/

/-- A NOP reports OK with a result area of zeros. Any report, with its record address, outcome, result and slot, joins
the queue's tail, and a reporter with nothing to do asks for the result-area write of the report at the head, or,
refused by the port, waits 8 us (R68, R69, R94, R96, R97). A report row taken alone acts as its dispatch (log 5); the
clock, and the flag and timer of a reporter with nothing to do, are the model's (log 2, log 32). -/
def Obligations.NopReportsOk : Prop :=
  (∀ (s : State) (order : Addr) (rec : Record), s.mirrorSound →
    let report : Report := { order := order, outcome := .ok, result := .zero, slot := none }
    let queued : ChainReader := { s.chain with reports := s.chain.reports ++ [report] }
    if s.chain.reporter ≠ .idle then Completes (.nop order rec) s { s with chain := queued }
    else
      let head := (s.chain.reports ++ [report]).headD report
      let write : MemRequest :=
        { kind := .resultArea, addr := head.order + 0x50, len := 48, data := head.result.bytes, abandoned := false }
      if write.addr.toNat + 47 < 2 ^ 48 then
        CompletesAsking (.nop order rec) s
          { s with chain := { queued with retryUsed := false, reporter := .writing .resultArea } } write
      else
        Completes (.nop order rec) s
          { s with chain :=
              { queued with
                retryUsed := false, reporter := .retryWait .resultArea, retryTimer := some (s.now + 8) } }) ∧
  (∀ (u : State) (order : Addr) (outcome : OrderOutcome) (result : ResultArea) (slot : Option SlotId),
    let report : Report := { order := order, outcome := outcome, result := result, slot := slot }
    let queued : ChainReader := { u.chain with reports := u.chain.reports ++ [report] }
    let head := (u.chain.reports ++ [report]).headD report
    let write : MemRequest :=
      { kind := .resultArea, addr := head.order + 0x50, len := 48, data := head.result.bytes, abandoned := false }
    u.reportOrder order outcome result =
      u.queueReport { order := order, outcome := outcome, result := result, slot := none } ∧
    u.queueReport report =
      if u.chain.reporter ≠ .idle then { u with chain := queued }
      else if write.addr.toNat + 47 < 2 ^ 48 then
        { u with
          chain := { queued with retryUsed := false, reporter := .writing .resultArea }
          port := { u.port with waitReport := some write } }
      else
        { u with chain :=
            { queued with
              retryUsed := false, reporter := .retryWait .resultArea, retryTimer := some (u.now + 8) } })

/-- A SETUP: the checks of R70 in order; taken, the notice unit holds the four values, the mirror is kept or not, and
every link that is DOWN with signal enters TRAINING. A waiting mirror write is withdrawn and an issued one given up:
with one issued for a write under way the write-in-flight flag stays until it completes; otherwise, with a mirror
kept, the next write begins at once. The interval timer stops, the dirty flag is set, and where the mirror is no
longer kept the interrupt is reconsidered (R70, R71, R115, R161, R162, R165, R166). -/
def Obligations.SetupTakenOrRefused : Prop :=
  ∀ (s : State) (order : Addr) (rec : Record), s.mirrorSound →
    let f := rec.setupFields
    if f.coordinatorTag = 0 ∨
        (f.mirrorBase ≠ 0 ∧ (f.mirrorBase.toNat % 64 ≠ 0 ∨ 2 ^ 48 ≤ f.mirrorBase.toNat + 511)) ∨
        1023 < f.mirrorInterval ∨ f.probeInterval < 100 then
      Completes (.setup order rec) s (s.reportOrder order .badField .zero)
    else if f.coordinatorTag ≠ s.notices.coordinatorTag ∧
        ∃ m, (s.link m).state = .training ∨ (s.link m).state = .up then
      Completes (.setup order rec) s (s.reportOrder order .linkBusy .zero)
    else
      let n := s.notices
      let trains (l : LinkEngine) : Bool := l.state == .down && l.signal
      let issued : Prop := ∃ r, s.port.current = some r ∧ r.kind.cls = .mirror
      let taken : State :=
        { s with
          notices :=
            { n with
              coordinatorTag := f.coordinatorTag, probeInterval := f.probeInterval, mirrorInterval := f.mirrorInterval
              mirrorBase := f.mirrorBase, mirrorState := if f.mirrorBase = 0 then .off else .on }
          links := s.links.map fun l =>
            if trains l then
              { l with
                state := .training, helloPending := true, helloTimer := some (s.now + f.probeInterval) }
            else l }
      let changed := if ∃ m, trains (s.link m) = true then taken.raise .linkChange else taken
      ∃ t, exec (.setup order rec) s = .next t ∧
        t.lasting = (changed.reportOrder order .ok .zero).chooseAll.lasting ∧
        (∀ r, s.port.current = some r →
          t.port.current = some (if r.kind.cls = .mirror then { r with abandoned := true } else r)) ∧
        (if f.mirrorBase = 0 ∨ (issued ∧ n.writeInFlight = true) then
          t.port.waitMirror = none ∧ t.notices.dirty = true ∧ t.notices.intervalTimer = none ∧
            t.notices.generation = n.generation ∧
            t.notices.writeInFlight = (n.writeInFlight && decide issued)
        else
          t.notices.dirty = false ∧ t.notices.generation = n.generation + 1 ∧ t.notices.writeInFlight = true ∧
            t.notices.intervalTimer = (if f.mirrorInterval = 0 then none else some (s.now + f.mirrorInterval)) ∧
            t.asks
              { kind := .mirrorLeading, addr := f.mirrorBase, len := 4, data := toLE 4 (n.generation + 1).toNat
                abandoned := false }) ∧
        t.port.latch =
          (s.port.latch || f.mirrorBase == 0 && t.notices.raw &&& ~~~t.notices.mask != 0)

/-- A GROUP_SET: refused for its fields or a busy group; with an empty member set it makes the group UNDEFINED and
releases its gates; otherwise it writes the record R4 gives, sends the gate requests and reports the new epoch (R2 to
R7, R72). The gate requests' order is the model's choice (log 28). -/
def Obligations.GroupSetDefinesOrRefuses : Prop :=
  ∀ (s : State) (order : Addr) (rec : Record), s.mirrorSound →
    let f := rec.groupSetFields
    let end_ (u : State) (outcome : OrderOutcome) (result : ResultArea) : Prop :=
      Completes (.groupSet order rec) s (u.reportOrder order outcome result)
    if h : f.group.toNat < 16 then
      let g : GroupId := ⟨f.group.toNat, h⟩
      if f.members ≠ 0 ∧ (f.quorum = 0 ∨ 8 < f.quorum ∨ setCard f.members < f.quorum ∨ 7 < f.retryLimit ∨
          f.ackDeadline < 16 ∨ f.orderDeadline = 0 ∨ 4095 < f.orderDeadline ∨ 1 < f.mode) then end_ s .badField .zero
      else if ∃ r, s.group g = some r ∧ (0 < r.slotsInUse ∨ r.frozen = true) then end_ s .groupBusy .zero
      else if f.members = 0 then
        if (s.group g).isNone then end_ s .ok (.groupSet 0)
        else end_ { s.setGroup g none with inFlight := s.inFlight ++ allLinks.map fun m => .release m g } .ok (.groupSet 0)
      else
        let effective := Machine.setOf fun m => f.members.getLsbD m.val && decide ((s.member m).health ≠ .fenced)
        let before := (s.group g).map GroupRecord.epoch
        let epoch : Epoch := if before.getD 0 = 0xFFFF then 1 else before.getD 0 + 1
        let state : GroupState := if f.quorum ≤ setCard effective then .live else .stalled
        let record : GroupRecord :=
          { state := state, defined := f.members, quorum := f.quorum, retryLimit := f.retryLimit
            ackDeadline := f.ackDeadline, orderDeadline := f.orderDeadline
            mode := if f.mode = 0 then .quorum else .all, base := f.initialNext, next := f.initialNext, epoch := epoch
            effective := effective, settle := f.initialNext, frozen := false, slotsInUse := 0 }
        let u := s.setGroup g (some record)
        let u := if state = .stalled ∧ (s.group g).map GroupRecord.state ≠ some .stalled then u.raise .groupStall else u
        end_ { u with inFlight := s.inFlight ++
                 allLinks.map fun m => if setHas effective m then .close m g else .release m g }
          .ok (.groupSet epoch)
    else end_ s .badField .zero

/-- A LINK_BIND: the checks of R73 in order; taken, a bind of an UNBOUND link enters DOWN and trains where it can, a
bind of a DOWN link replaces the tag, and an unbind makes the link UNBOUND (R73, R115). -/
def Obligations.LinkBindTakenOrRefused : Prop :=
  ∀ (s : State) (order : Addr) (rec : Record), s.mirrorSound →
    let tag := rec.bindTag
    let end_ (u : State) (outcome : OrderOutcome) : Prop :=
      Completes (.linkBind order rec) s (u.reportOrder order outcome .zero)
    if h : (rec.byte 0x10).toNat < 8 then
      let m : LinkId := ⟨(rec.byte 0x10).toNat, h⟩
      let l := s.link m
      if tag ≠ 0 ∧ ∃ k, k ≠ m ∧ (s.link k).tag = some tag then end_ s .badField
      else if tag ≠ 0 ∧ s.notices.coordinatorTag = 0 then end_ s .noSetup
      else if l.state = .training ∨ l.state = .up then end_ s .linkBusy
      else if tag = 0 ∧ ((s.member m).health ≠ .fenced ∨ (s.member m).readmit.isSome ∨ l.note.isSome ∨ l.queue ≠ [] ∨
          l.outstanding ≠ []) then end_ s .linkBusy
      else if tag = 0 then
        if l.state = .unbound then end_ s .ok
        else end_ ((s.setLink m { l with tag := none, state := .unbound }).raise .linkChange) .ok
      else if l.state = .unbound then
        let down := (s.setLink m { l with tag := some tag, state := .down }).raise .linkChange
        if l.signal then
          end_ ((down.setLink m
            { l with tag := some tag, state := .training, helloPending := true
                     helloTimer := some (s.now + s.notices.probeInterval) }).raise .linkChange) .ok
        else end_ down .ok
      else end_ (s.setLink m { l with tag := some tag }) .ok
    else end_ s .badField

/-- A fence of a member in service: FENCED with its cause, MEMBER_CHANGE, and the three requests sent in order; an
EXCLUDE of it stays dispatched until they have been taken, and an EXCLUDE of a FENCED member reports OK. With none of
the three requests in flight any longer, the EXCLUDE reports OK and the walk that dispatched it goes on as after any
dispatch; while one of them is in flight it waits (R66, R74, R88, R145, R146, R148). The way an EXCLUDE waits for its
requests is the model's (log 6). -/
def Obligations.ExcludeAndFenceRequests : Prop :=
  (∀ (s : State) (m : LinkId) (cause : FenceCause), s.mirrorSound →
    let fenced (u : State) (c : FenceCause) : State :=
      { (u.setMember m { u.member m with health := .fenced, streak := 0, cause := some c }).raise .memberChange with
        inFlight := u.inFlight ++ [.removalRequest m, .slotMarking m, .purgeOnFence m] }
    let taken := s.taken (.fenceRequest m cause)
    ((s.member m).health ≠ .fenced → Completes (.fenceRequest m cause) s (fenced taken cause)) ∧
    ((s.member m).health = .fenced → Completes (.fenceRequest m cause) s taken) ∧
    (∀ (order : Addr) (rec : Record), rec.link? = some m →
      if (s.member m).health = .fenced then Completes (.exclude order rec) s (s.reportOrder order .ok .zero)
      else Completes (.exclude order rec) s
        { fenced s .admin with chain := { s.chain with excluding := some { order := order, member := m } } }) ∧
    (∀ (order : Addr) (rec : Record), rec.link? = none →
      Completes (.exclude order rec) s (s.reportOrder order .badField .zero))) ∧
  (∀ u : State,
    let inFlight (c : Instr) : Prop := u.inFlight.contains c = true
    (u.chain.excluding = none → u.excludeCheck = u) ∧
    (∀ x, u.chain.excluding = some x →
      let reported := { u with chain := { u.chain with excluding := none } }.reportOrder x.order .ok .zero
      u.excludeCheck =
        if inFlight (.removalRequest x.member) ∨ inFlight (.slotMarking x.member) ∨
            inFlight (.purgeOnFence x.member) then u
        else if u.chain.walk = .dispatching then reported.afterDispatch
        else reported))

/-- A READMIT, after the requests of the membership unit in flight have been taken by the group table and the link
engines in the order they were sent: the checks of R149 in order, and the hold on its groups; accepted, the groups are
frozen, the readmit is in flight, REJOIN-pending is set and the reply timer runs for four probe intervals; a link
above 7 is a BAD_FIELD (R9, R75, R76, R146, R149). That the dispatch of a READMIT, one that is refused too, takes
those requests in its own event is the model's choice (log 1). -/
def Obligations.ReadmitTakenOrRefused : Prop :=
  (∀ (v : State) (order : Addr) (rec : Record) (m : LinkId), v.mirrorSound → rec.link? = some m →
    let s : State := (v.inFlight.foldl (fun u c =>
      match c with
      | .removalRequest k => (u.taken c).removeMember k
      | .readmitEnding k accepted offer => (u.taken c).endReadmission k accepted offer
      | .purgeOnFence k => (u.taken c).purge k
      | .wHandOver k w => (u.taken c).handOverW k w
      | .fencePendingRequest k fence => (u.taken c).requestFence k fence
      | _ => u) v).excludeCheck
    let end_ (outcome : OrderOutcome) : Prop :=
      Completes (.readmit order rec) v (s.reportOrder order outcome (.readmit 0 0 none []))
    let gs : List GroupId := allGroups.filter fun g => (s.group g).any fun r => setHas r.defined m
    let successor (e : Epoch) : Epoch := if e = 0xFFFF then 1 else e + 1
    let offer : List OfferEntry := gs.filterMap fun g => (s.group g).map fun r =>
      { group := g, epoch := successor r.epoch, next := r.next, atBase := r.next == r.base }
    if (s.link m).state ≠ .up then end_ .linkNotUp
    else if (s.member m).health ≠ .fenced then end_ .notFenced
    else if (s.member m).readmit.isSome ∨ (s.link m).note.isSome then end_ .memberBusy
    else if (gs.any fun g => (s.group g).any fun r => decide (0 < r.slotsInUse) || r.frozen) = true then end_ .groupBusy
    else Completes (.readmit order rec) v
      { s with
        groups := Vector.ofFn fun g => if gs.contains g then (s.group g).map fun r => { r with frozen := true } else s.group g
        members := s.members.set m.val
          { s.member m with
            readmit := some { order := order, tag := rec.tag, offer := offer, sent := false }
            replyTimer := some (s.now + 4 * s.notices.probeInterval) }
        links := s.links.set m.val { s.link m with rejoinPending := true } }) ∧
  (∀ (v : State) (order : Addr) (rec : Record), v.mirrorSound → rec.link? = none →
    Completes (.readmit order rec) v (v.reportOrder order .badField (.readmit 0 0 none [])))

/-- A COMMIT: the checks of R77 in order; taken, the lowest FREE slot becomes LOADING with the blocks of its payload
off the head of the free list, its group counts it, and it joins the loader queue (R12, R20, R51, R53, R77). -/
def Obligations.CommitTakenOrRefused : Prop :=
  ∀ (s : State) (order : Addr) (rec : Record), s.mirrorSound →
    let length := rec.payloadLength
    let need := (length + 255) / 256
    let end_ (outcome : OrderOutcome) : Prop := Completes (.commit order rec) s (s.reportOrder order outcome .zero)
    match rec.group? with
    | none => end_ .badField
    | some g =>
      if length = 0 ∨ 4096 < length then end_ .badField
      else if 2 ^ 48 ≤ rec.payloadAddr.toNat then end_ .badField
      else match s.group g with
        | none => end_ .groupUndefined
        | some r =>
          if 256 - s.store.quarantine.length < need then end_ .storeShort
          else ∀ i : SlotId, s.slot i = none → (∀ k, k < i → (s.slot k).isSome) → need ≤ s.store.free.length →
            let slot : Slot :=
              { state := .loading, order := order, group := g, waitAll := rec.waitAll, payloadAddr := rec.payloadAddr
                length := length, target := rec.targetOffset, blocks := s.store.free.take need, checkWord := none
                admission := none, results := Vector.replicate 8 .none, retries := Vector.replicate 8 0, firstTry := 0
                queued := 0, deadlineRunning := false, poisoned := false, report := none }
            let taken := { (s.setSlot i (some slot)).setGroup g (some { r with slotsInUse := r.slotsInUse + 1 }) with
                           store := { s.store with free := s.store.free.drop need } }
            if s.store.loaderQueue ≠ [] then
              Completes (.commit order rec) s
                { taken with store := { taken.store with loaderQueue := s.store.loaderQueue ++ [i] } }
            else
              let piece := if 256 < length then 256 else length
              if rec.payloadAddr.toNat + piece - 1 < 2 ^ 48 then
                CompletesAsking (.commit order rec) s
                  { taken with store :=
                      { taken.store with loaderQueue := [i], load := some { piece := 0, crc := 0xFFFFFFFF } } }
                  { kind := .piece, addr := rec.payloadAddr, len := piece, data := [], abandoned := false }
              else Completes (.commit order rec) s
                ({ taken with store := { taken.store with load := none } }.reportPoint i .hostReadFault)

/-- A BARRIER records the next sequence of each target group and the target groups' LOADING slots; satisfied, it
reports the settle marks, otherwise it is held and tested again at each re-evaluation (R78, R81, R92, R93). -/
def Obligations.BarrierSatisfiedOrHeld : Prop :=
  (∀ (s : State) (order : Addr) (rec : Record), s.mirrorSound →
    let targets : List GroupId :=
      match rec.barrierTarget with
      | none => []
      | some (.group g) => [g]
      | some .all => allGroups.filter fun g => (s.group g).isSome
    let record (g : GroupId) : GroupId × Seq := (g, match s.group g with | none => 0 | some r => r.next)
    let b : HeldBarrier :=
      { order := order, targets := groupSetOf targets, recorded := targets.map record
        loading := allSlots.filter fun i => (s.slot i).any fun t => t.state == .loading && targets.contains t.group }
    let marks : List Seq := targets.map fun g => match s.group g with | none => 0 | some r => r.settle
    if rec.barrierTarget = none then Completes (.barrier order rec) s (s.reportOrder order .badField .zero)
    else if (targets.any fun g => (s.group g).isNone) = true then
      Completes (.barrier order rec) s (s.reportOrder order .groupUndefined .zero)
    else if b.loading = [] ∧ (targets.all fun g => (s.group g).all fun r => decide (r.next ≤ r.settle)) = true then
      Completes (.barrier order rec) s (s.reportOrder order .ok (.barrier (groupSetOf targets) marks))
    else Completes (.barrier order rec) s
      { s with chain :=
          { s.chain with
            heldBarrier := some b, heldReason := .barrier
            state := if s.chain.state = .faulted ∨ s.chain.state = .stopped then s.chain.state else .held } }) ∧
  (∀ s : State, s.mirrorSound →
    let u := s.taken .barrierReEvaluation
    match s.chain.heldBarrier with
    | none => Completes .barrierReEvaluation s u
    | some b =>
      let mark (g : GroupId) : Seq := match s.group g with | none => 0 | some r => r.settle
      if (∀ p ∈ b.recorded, p.2 ≤ mark p.1) ∧ ∀ i ∈ b.loading, s.slot i = none then
        let v := u.reportOrder b.order .ok (.barrier b.targets (b.recorded.map fun p => mark p.1))
        let w : State := { v with chain := { v.chain with heldBarrier := none, heldReason := .none } }
        if s.chain.state = .held then
          Completes .barrierReEvaluation s { w with chain := { w.chain with state := .idle } }.fetchIfDue
        else Completes .barrierReEvaluation s w
      else Completes .barrierReEvaluation s u)

/-- A NOTE: the checks of R79 in order; taken, the NOTE is in flight on its link with the first message-length bytes
of the parameter area, to be sent (R79, R137). -/
def Obligations.NoteTakenOrRefused : Prop :=
  ∀ (s : State) (order : Addr) (rec : Record), s.mirrorSound →
    let m : LinkId := Fin.ofNat 8 (rec.kind.toNat - 0x20)
    let end_ (outcome : OrderOutcome) : Prop := Completes (.note order rec) s (s.reportOrder order outcome .zero)
    if rec.flags = 0 ∨ 64 < rec.flags then end_ .badField
    else if (s.link m).state ≠ .up then end_ .linkNotUp
    else if (s.member m).readmit.isSome ∨ (s.link m).note.isSome then end_ .memberBusy
    else Completes (.note order rec) s
      (s.setLink m
        { s.link m with
          notePending := true
          note := some { order := order, tag := rec.tag, message := rec.params.take rec.flags.toNat, sent := false } })

/-! ### Payload, admission, window -/

/-- The piece reads of a load. Without an error, the piece's bytes stand in the payload's next block with zero fill,
no other byte of the store changes, no word of the block disagrees with its parity any longer and the other words'
parity is as before, the CRC takes the piece, and the next piece is asked for, or the load ends with its check word
and an admission request; with one, the head's slot reaches its report point with HOST_READ_FAULT. The next load of
the queue then begins, a refused first read being a load fault of its own (R21, R25, R53 to R57, R101). -/
def Obligations.PieceReads : Prop :=
  (∀ (s : State) (q : MemRequest) (i : SlotId) (rest : List SlotId) (t : Slot) (l : Load) (b : BlockId)
    (bytes : List Byte), s.mirrorSound → s.storeSound → s.port.current = some q → q.kind = .piece →
    q.abandoned = false → s.store.loaderQueue = i :: rest → s.store.load = some l → s.slot i = some t →
    t.blocks[l.piece]? = some b → bytes.length = q.len →
    let blocks := (t.length + 255) / 256
    let crc := bytes.foldl crcByte l.crc
    let next : MemRequest :=
      { kind := .piece, addr := t.payloadAddr + BitVec.ofNat 64 (256 * (l.piece + 1))
        len := if l.piece + 2 < blocks then 256 else t.length - 256 * (blocks - 1), data := [], abandoned := false }
    let written (queue : List SlotId) (load : Option Load) : State :=
      { s.freeResource with store := { s.store.writeBlock b bytes with loaderQueue := queue, load := load } }
    (∀ u, exec (.pieceRead (some bytes)) s = .next u →
      (∀ j, j < 256 → u.store.byte b j = bytes.getD j 0) ∧
      (∀ c j, c ≠ b → j < 256 → u.store.byte c j = s.store.byte c j) ∧
      (∀ w, w ∈ u.store.badWords ↔ w ∈ s.store.badWords ∧ w / 32 ≠ b.val)) ∧
    if l.piece + 1 < blocks then
      if next.addr.toNat + next.len - 1 < 2 ^ 48 then
        CompletesAsking (.pieceRead (some bytes)) s
          (written (i :: rest) (some { piece := l.piece + 1, crc := crc })) next
      else Completes (.pieceRead (some bytes)) s
        (State.beginLoads rest ((written rest none).reportPoint i .hostReadFault))
    else
      Completes (.pieceRead (some bytes)) s
        (State.beginLoads rest
          (((written rest none).setSlot i (some { t with checkWord := some (~~~crc.reverse) })).send
            (.admissionRequest i t.group)))) ∧
  (∀ (s : State) (q : MemRequest) (i : SlotId) (rest : List SlotId) (t : Slot) (l : Load), s.mirrorSound →
    s.port.current = some q → q.kind = .piece → q.abandoned = false → s.store.loaderQueue = i :: rest →
    s.store.load = some l → s.slot i = some t →
    Completes (.pieceRead none) s
      (State.beginLoads rest
        ({ s.freeResource with store := { s.store with loaderQueue := rest, load := none } }.reportPoint i
          .hostReadFault))) ∧
  (∀ u : State, State.beginLoads [] u = { u with store := { u.store with loaderQueue := [], load := none } }) ∧
  (∀ (i : SlotId) (rest : List SlotId) (u : State),
    let queued (queue : List SlotId) (load : Option Load) : State :=
      { u with store := { u.store with loaderQueue := queue, load := load } }
    match u.slot i with
    | none => State.beginLoads (i :: rest) u = State.beginLoads rest u
    | some t =>
      let first : MemRequest :=
        { kind := .piece, addr := t.payloadAddr, len := if 256 < t.length then 256 else t.length, data := []
          abandoned := false }
      State.beginLoads (i :: rest) u =
        if 2 ^ 48 ≤ first.addr.toNat + first.len - 1 then
          State.beginLoads rest ((queued rest none).reportPoint i .hostReadFault)
        else
          { queued (i :: rest) (some { piece := 0, crc := 0xFFFFFFFF }) with
            port := { u.port with waitPayload := some first } })

/-- An admission request: a STALLED or UNDEFINED group refuses with NO_QUORUM, an exhausted one with SEQ_EXHAUSTED,
and otherwise the next sequence is assigned. Its answer, at a slot that waits for one: granted, the slot is OPEN, each
member of the effective set is PENDING or FENCED by its health, the deadline timer runs, a data entry is sent for each
PENDING member, and the report point is evaluated; refused, it is the report point with the refusal's outcome. At any
other slot nothing changes (R11, R21 to R24, R36, R37). An UNDEFINED group, whose settle mark reads 0, the data
entries' order by ascending link, and the clock are the model's choices (log 24, log 28, log 2, log 27). -/
def Obligations.AdmissionsAskedAndAnswered : Prop :=
  (∀ (s : State) (i : SlotId) (g : GroupId), s.mirrorSound →
    let u := s.taken (.admissionRequest i g)
    match s.group g with
    | none => Completes (.admissionRequest i g) s (u.send (.admissionRefused i .noQuorum))
    | some r =>
      if r.state = .stalled then Completes (.admissionRequest i g) s (u.send (.admissionRefused i .noQuorum))
      else if r.next = 0xFFFFFFFF then Completes (.admissionRequest i g) s (u.send (.admissionRefused i .seqExhausted))
      else Completes (.admissionRequest i g) s
        ((u.setGroup g (some { r with next := r.next + 1 })).send
          (.admissionGranted i
            { seq := r.next, epoch := r.epoch, quorum := r.quorum, effective := r.effective
              orderDeadline := r.orderDeadline, mode := r.mode }))) ∧
  (∀ (s : State) (i : SlotId) (d : AdmissionData), s.mirrorSound →
    let u := s.taken (.admissionGranted i d)
    (∀ t, s.slot i = some t → t.state = .loading → t.checkWord.isSome →
      let result (m : LinkId) : MemberResult :=
        if d.effective.getLsbD m.val = false then .none
        else if (s.member m).health = .fenced then .fenced
        else .pending
      let pending := allLinks.filter fun m => result m == .pending
      let slot : Slot :=
        { t with
          state := .opened, firstTry := 0xFF, queued := Machine.setOf fun m => result m == .pending, deadlineRunning := true
          results := Vector.ofFn result
          admission := some
            { seq := d.seq, epoch := d.epoch, quorum := d.quorum, snapshot := d.effective
              mode := if t.waitAll ∨ d.mode = .all then .all else .quorum
              deadline := s.now + 1000 * d.orderDeadline } }
      Completes (.admissionGranted i d) s
        ({ u.setSlot i (some slot) with
            inFlight := u.inFlight ++ pending.map fun m => Instr.dataEntry m i t.group d.seq }.afterChange i)) ∧
    ((∀ t, s.slot i = some t → t.state ≠ .loading ∨ t.checkWord = none) →
      Completes (.admissionGranted i d) s u)) ∧
  (∀ (s : State) (i : SlotId) (why : AdmissionRefusal), s.mirrorSound →
    let u := s.taken (.admissionRefused i why)
    let outcome : OrderOutcome := match why with | .noQuorum => .noQuorum | .seqExhausted => .seqExhausted
    if ∃ t, s.slot i = some t ∧ t.state = .loading ∧ t.checkWord.isSome = true then
      Completes (.admissionRefused i why) s (u.reportPoint i outcome)
    else Completes (.admissionRefused i why) s u) ∧
  (∀ (s : State) (g : GroupId), s.group g = none → s.settleMark g = 0)

/-- The report point: the slot is REPORTING with its outcome, the snapshot of its member results and the settle mark,
and its report carries them. After an event at a slot an OPEN slot reaches its report point by its mode's rule, and a
TRAILING slot with every member settled retires (R36, R37, R39, R40, R42, R43, R94). -/
def Obligations.SlotEvaluation : Prop :=
  (∀ (s : State) (i : SlotId) (t : Slot) (a : SlotAdmission), s.slot i = some t → t.admission = some a →
    let count (r : MemberResult) : Nat := allLinks.countP fun m => t.results[m.val] == r
    let acked := count .acked
    let pending := count .pending
    let settled : Prop := ∀ m : LinkId, t.results[m.val] ≠ .pending ∧ t.queued.getLsbD m.val = false
    let allAcked : Prop := ∀ m : LinkId, a.snapshot.getLsbD m.val = true → t.results[m.val] = .acked
    (t.state = .opened → a.mode = .quorum →
      s.afterChange i =
        if a.quorum ≤ acked then s.reportPoint i .ok
        else if acked + pending < a.quorum then s.reportPoint i .quorumLost
        else s) ∧
    (t.state = .opened → a.mode = .all →
      s.afterChange i =
        if 0 < pending then s
        else if allAcked then s.reportPoint i .ok
        else if a.quorum ≤ acked then s.reportPoint i .partialOk
        else s.reportPoint i .quorumLost) ∧
    (t.state = .trailing → s.afterChange i = if settled then s.retire i else s) ∧
    (t.state = .loading ∨ t.state = .reporting → s.afterChange i = s)) ∧
  (∀ (s : State) (i : SlotId) (t : Slot) (outcome : OrderOutcome), s.slot i = some t →
    let settle := s.settleMark t.group
    let result : ResultArea :=
      match t.admission with
      | none => .commit 0 0 0 t.results settle
      | some a => .commit a.seq a.epoch a.snapshot t.results settle
    s.reportPoint i outcome =
      (s.setSlot i (some
        { t with state := .reporting
                 report := some { outcome := outcome, snapshot := t.results, settle := settle } })).queueReport
        { order := t.order, outcome := outcome, result := result, slot := some i }) ∧
  (∀ (s : State) (g : GroupId) (r : GroupRecord), s.group g = some r → s.settleMark g = r.settle)

/-- Retire: the slot is FREE, its blocks not quarantined go to the free list's tail, its group's count falls, its
settle mark is the smallest sequence that a slot of the group still holds, or the next sequence, a change of which
marks the mirror dirty, and the releases are sent in order. The report write end: a REPORTING slot with every member
settled retires, any other REPORTING slot trails, and no other slot changes (R12, R13, R15, R41, R43, R44, R52). That
a slot holds the sequence of a granted admission from the grant on is the model's reading (log 34). -/
def Obligations.RetireReleasesAndWriteEnds : Prop :=
  (∀ (s : State) (i : SlotId) (t : Slot), s.slot i = some t →
    let back := t.blocks.filter fun b => !s.store.quarantine.contains b
    let u := s.retire i
    u.slot i = none ∧ (∀ k, k ≠ i → u.slot k = s.slot k) ∧
    u.store = { s.store with free := s.store.free ++ back } ∧
    (∀ g, g ≠ t.group → u.group g = s.group g) ∧
    (∀ r, s.group t.group = some r →
      let granted (k : SlotId) (c : Instr) : Option Seq :=
        match c with
        | .admissionGranted j d => if j = k then some d.seq else none
        | _ => none
      let held : List Seq := allSlots.filterMap fun k =>
        match u.slot k with
        | none => none
        | some x =>
          if x.group = t.group then
            match x.admission with
            | some a => some a.seq
            | none => s.inFlight.findSome? (granted k)
          else none
      ∃ r', u.group t.group = some r' ∧ r' = { r with slotsInUse := r.slotsInUse - 1, settle := r'.settle } ∧
        if held = [] then r'.settle = r.next else r'.settle ∈ held ∧ (held.all fun q => decide (r'.settle ≤ q)) = true) ∧
    u.inFlight = s.inFlight ++ [.slotRelease] ++ (if back = [] then [] else [.blockRelease]) ++ [.barrierReEvaluation] ++
      (if ∀ k, u.slot k = none then [.windowEmpty] else []) ∧
    u.chain = s.chain ∧ u.members = s.members ∧ u.links = s.links ∧
    (let settle (v : State) : Option Seq := (v.group t.group).map GroupRecord.settle
    u.notices = { s.notices with dirty := s.notices.dirty || decide (settle u ≠ settle s) })) ∧
  (∀ (s : State) (i : SlotId), s.mirrorSound →
    let u := s.taken (.reportWriteEnd i)
    (∀ t, s.slot i = some t → t.state = .reporting →
      if ∀ m : LinkId, t.results[m.val] ≠ .pending ∧ t.queued.getLsbD m.val = false then
        Completes (.reportWriteEnd i) s (u.retire i)
      else Completes (.reportWriteEnd i) s (u.setSlot i (some { t with state := .trailing }))) ∧
    ((∀ t, s.slot i = some t → t.state ≠ .reporting) → Completes (.reportWriteEnd i) s u))

/-- The reports of the link engines at a slot that matches with the member PENDING: an ACK report writes ACKED and
sends a clean-streak notice; a retry request is granted below the limit and otherwise fails the member as LOST; NACK
and LINK_DOWN reports fail it with their cause; a failure is reported to the membership unit; the slot is then
evaluated (R26 to R32). That a retry's answer is sent before its notice or its failure report is the text's order (log
28). -/
def Obligations.MemberReportsAtTheWindow : Prop :=
  ∀ (s : State) (i : SlotId) (m : LinkId) (limit : Nat) (why : NackFailure) (t : Slot) (a : SlotAdmission),
    s.mirrorSound → s.slot i = some t → t.state ≠ .loading → t.admission = some a → t.results[m.val] = .pending →
    let g := t.group
    let seq := a.seq
    let result (r : MemberResult) : Slot := { t with results := t.results.set m.val r }
    let fails (u : State) (r : MemberResult) (cause : FenceCause) : State :=
      ((u.setSlot i (some (result r))).send (.fenceRequest m cause)).afterChange i
    let nack : FenceCause := match why with | .full => .full | .staleEpoch => .staleEpoch
    let retry := s.taken (.retryRequest i g seq m limit)
    Completes (.ackReport i g seq m) s
      ((((s.taken (.ackReport i g seq m)).setSlot i (some (result .acked))).send
        (.cleanStreakNotice m (t.firstTry.getLsbD m.val))).afterChange i) ∧
    (t.retries[m.val] < limit →
      Completes (.retryRequest i g seq m limit) s
        (((retry.setSlot i (some
          { t with retries := t.retries.set m.val (t.retries[m.val] + 1), firstTry := setErase t.firstTry m
                   queued := setInsert t.queued m })).send (.retryAnswer m i g seq true)).send (.retryNotice m))) ∧
    (limit ≤ t.retries[m.val] →
      Completes (.retryRequest i g seq m limit) s (fails (retry.send (.retryAnswer m i g seq false)) .lost .lost)) ∧
    Completes (.nackReport i g seq m why) s
      (fails (s.taken (.nackReport i g seq m why)) (match why with | .full => .full | .staleEpoch => .staleEpoch)
        nack) ∧
    Completes (.linkDownReport i g seq m) s (fails (s.taken (.linkDownReport i g seq m)) .linkDown .linkDown)

/-- A report that no slot matches, or whose member is not PENDING, changes no slot, and a retry request is then
answered GIVE_UP; a slot matches that is past LOADING and holds the named group and sequence; a left-queue notice
clears the member's queued flag at the slot it matches, and a TRAILING slot is checked (R23, R27 to R31, R42, R43). -/
def Obligations.WindowWithoutAMatch : Prop :=
  (∀ (s : State) (i : SlotId) (g : GroupId) (seq : Seq) (m : LinkId) (limit : Nat) (why : NackFailure), s.mirrorSound →
    (∀ t, s.slot i = some t → ∀ a, t.admission = some a →
      t.state = .loading ∨ t.group ≠ g ∨ a.seq ≠ seq ∨ t.results[m.val] ≠ .pending) →
    Completes (.ackReport i g seq m) s (s.taken (.ackReport i g seq m)) ∧
    Completes (.retryRequest i g seq m limit) s
      ((s.taken (.retryRequest i g seq m limit)).send (.retryAnswer m i g seq false)) ∧
    Completes (.nackReport i g seq m why) s (s.taken (.nackReport i g seq m why)) ∧
    Completes (.linkDownReport i g seq m) s (s.taken (.linkDownReport i g seq m))) ∧
  (∀ (s : State) (i : SlotId) (g : GroupId) (seq : Seq) (m : LinkId), s.mirrorSound →
    let u := s.taken (.leftQueueNotice i g seq m)
    match s.matchSlot i g seq with
    | none => Completes (.leftQueueNotice i g seq m) s u
    | some t =>
      let v := u.setSlot i (some { t with queued := t.queued &&& ~~~((1 : MemberSet) <<< m.val) })
      if t.state = .trailing then Completes (.leftQueueNotice i g seq m) s (v.afterChange i)
      else Completes (.leftQueueNotice i g seq m) s v) ∧
  (∀ (s : State) (i : SlotId) (g : GroupId) (seq : Seq),
    s.matchSlot i g seq =
      match s.slot i with
      | none => none
      | some t =>
        if t.state ≠ .loading ∧ t.group = g ∧ t.admission.map SlotAdmission.seq = some seq then some t else none)

/-- A fence's slot marking: every PENDING result of the member in a slot past LOADING becomes FENCED, and each slot so
changed is then evaluated; an EXCLUDE that waited for the marking is then looked at (R33, R148). The order of the
evaluations, by ascending slot number, is the model's choice (log 39). -/
def Obligations.SlotMarkingFences : Prop :=
  ∀ (s : State) (m : LinkId), s.mirrorSound →
    let changed (i : SlotId) : Bool := (s.slot i).any fun t => t.state != .loading && t.results[m.val] == .pending
    let marked : State :=
      { s.taken (.slotMarking m) with
        window := Vector.ofFn fun i =>
          if changed i then (s.slot i).map fun t => { t with results := t.results.set m.val .fenced } else s.slot i }
    Completes (.slotMarking m) s ((allSlots.filter changed).foldl State.afterChange marked).excludeCheck

/-- A poisoning report at a matching slot not yet poisoned, and an order deadline's expiry: every PENDING member fails
as POISON or DEADLINE, the failures are reported, and an OPEN slot reaches its report point with STORE_FAULT, or with
DEADLINE if a member was PENDING (R27, R34, R35, R38). The failure reports' order by ascending link, and the clock,
are the model's choices (log 28, log 2, log 27). -/
def Obligations.PoisonAndDeadlineFailPending : Prop :=
  (∀ (s : State) (i : SlotId) (g : GroupId) (seq : Seq), s.mirrorSound →
    let u := s.taken (.poisoningReport i g seq)
    match s.matchSlot i g seq with
    | none => Completes (.poisoningReport i g seq) s u
    | some t =>
      if t.poisoned then Completes (.poisoningReport i g seq) s u
      else
        let failed := allLinks.filter fun m => t.results[m.val] == .pending
        let slot : Slot :=
          { t with poisoned := true, results := t.results.map fun r => if r = .pending then .poison else r }
        let v : State :=
          { u.setSlot i (some slot) with inFlight := u.inFlight ++ failed.map fun m => .fenceRequest m .poison }
        if t.state = .opened then Completes (.poisoningReport i g seq) s (v.reportPoint i .storeFault)
        else Completes (.poisoningReport i g seq) s (v.afterChange i)) ∧
  (∀ (s : State) (i : SlotId) (t : Slot) (a : SlotAdmission), s.mirrorSound → s.slot i = some t →
    t.admission = some a → t.deadlineRunning = true →
    let failed := allLinks.filter fun m => t.results[m.val] == .pending
    let slot : Slot :=
      { t with
        deadlineRunning := false, results := t.results.map fun r => if r = .pending then .deadline else r }
    let u : State :=
      { s.setSlot i (some slot) with
        now := max s.now a.deadline, inFlight := s.inFlight ++ failed.map fun m => .fenceRequest m .deadline }
    if failed = [] then Completes (.orderDeadlineExpiry i) s u
    else if t.state = .opened then Completes (.orderDeadlineExpiry i) s (u.reportPoint i .deadline)
    else Completes (.orderDeadlineExpiry i) s (u.afterChange i))

/-! ### Link engines -/

/-- A data entry from an opening joins the queue's tail on an UP link of a member in service; a RETRY answer places a
marked entry behind the marked entries but ahead of those of its own group with a higher sequence. Elsewhere, and so
after a HALT, both are refused with the left-queue notice; GIVE_UP places nothing (R125, R126, R130, R140; the place
among other groups' entries is the model's choice, log 13). -/
def Obligations.DataEntriesPlacedOrRefused : Prop :=
  (∀ (s : State) (seq : Seq) (m : LinkId) (i : SlotId) (g : GroupId), s.mirrorSound →
    let u := s.taken (.dataEntry m i g seq)
    let entry : DataEntry := { slot := i, group := g, seq := seq, retransmission := false }
    if (s.link m).state = .up ∧ (s.member m).health ≠ .fenced then
      Completes (.dataEntry m i g seq) s (u.setLink m { s.link m with queue := (s.link m).queue ++ [entry] })
    else Completes (.dataEntry m i g seq) s (u.send (.leftQueueNotice i g seq m))) ∧
  (∀ (s : State) (m : LinkId) (i : SlotId) (g : GroupId) (seq : Seq), s.mirrorSound →
    let u := s.taken (.retryAnswer m i g seq true)
    let entry : DataEntry := { slot := i, group := g, seq := seq, retransmission := true }
    Completes (.retryAnswer m i g seq false) s (s.taken (.retryAnswer m i g seq false)) ∧
    ((s.link m).state ≠ .up ∨ (s.member m).health = .fenced →
      Completes (.retryAnswer m i g seq true) s (u.send (.leftQueueNotice i g seq m))) ∧
    ((s.link m).state = .up → (s.member m).health ≠ .fenced →
      ∀ front back : List DataEntry, (s.link m).queue = front ++ back →
        (front.all fun e => e.retransmission && !(e.group == g && decide (seq < e.seq))) = true →
        (∀ e, back.head? = some e → e.retransmission = false ∨ (e.group = g ∧ seq < e.seq)) →
        Completes (.retryAnswer m i g seq true) s
          (u.setLink m { s.link m with queue := front ++ entry :: back })))

/-- A transmitter that is free, with no build in progress, chooses: in TRAINING HELLO; in UP PROBE, FENCE, REJOIN, the
EPOCH of the lowest group, NOTE, then the first eligible data entry, one with credits left, an OPEN gate and a member
in service; in UNBOUND and DOWN nothing. A frame gone out frees it. A completed frame read of the WRITE a link builds
sends the WRITE as one event, with its outstanding entry and a credit spent; where a word fails its parity check the
entry leaves, the block is quarantined and STORE_FAULT is raised. Byte i of the payload is byte i mod 256 of entry
i/256 of the block list, and the words checked are those of the payload in order, 32 to a block (R19, R48, R59, R60,
R108, R123, R124, R126, R127). The words with a wrong parity are held as one list for all links, a read carries its
upsets, and every word is checked at its completion (log 7); the ack deadline of an UNDEFINED group (log 38), a build
whose slot does not match (log 24), a read with no WRITE being built (log 4) and the order of a parity failure's
messages (log 28) are the model's choices. -/
def Obligations.TransmitterEvents : Prop :=
  (∀ (s : State) (m : LinkId), s.mirrorSound →
    Completes (.frameGoneOut m) s (s.setLink m { s.link m with sending := none })) ∧
  (∀ (s : State) (m : LinkId) (upsets : List Nat) (e : DataEntry) (t : Slot), s.mirrorSound →
    (s.link m).build = some (.data e) → s.matchSlot e.slot e.group e.seq = some t →
    let l := s.link m
    let words := payloadWords t.blocks t.length
    let bad := (upsets.filter words.contains).foldl insertWord s.store.badWords
    let read : State := { s with store := { s.store with badWords := bad } }
    let gone (u : State) : State := u.send (.leftQueueNotice e.slot e.group e.seq m)
    match words.find? bad.contains with
    | none =>
      let frame : Frame :=
        { kind := 3, flags := 0, group := BitVec.ofNat 8 e.group.val, senderTag := s.notices.coordinatorTag
          epoch := match s.group e.group with | none => 0 | some r => r.epoch
          sequence := e.seq, param := t.checkWord.getD 0
          body := toBE 8 t.target.toNat ++ s.store.payload t.blocks t.length }
      let outstanding : Outstanding :=
        { slot := e.slot, group := e.group, seq := e.seq, ignored := false
          expiry := s.now + match s.group e.group with | none => 0 | some r => r.ackDeadline }
      Completes (.frameRead m upsets) s
        (gone (read.setLink m
          { l with build := none, sending := some frame, credits := l.credits - 1
                   outstanding := l.outstanding ++ [outstanding], queue := l.queue.erase e }))
    | some word =>
      let b : BlockId := Fin.ofNat 256 (word / 32)
      let left := gone (read.setLink m { l with build := none, queue := l.queue.erase e })
      if s.store.quarantine.contains b then
        Completes (.frameRead m upsets) s ((left.raise .storeFault).send (.poisoningReport e.slot e.group e.seq))
      else
        Completes (.frameRead m upsets) s
          ((({ left with store := { left.store with quarantine := s.store.quarantine ++ [b] } }.raise .storeFault).send
            (.poisoningReport e.slot e.group e.seq)).send .quarantineNotice)) ∧
  (∀ (s : State) (m : LinkId) (upsets : List Nat), s.mirrorSound →
    let l := s.link m
    match l.build with
    | none | some (.control _) => Completes (.frameRead m upsets) s s
    | some (.data e) =>
      s.matchSlot e.slot e.group e.seq = none →
        Completes (.frameRead m upsets) s
          ((s.setLink m { l with build := none, queue := l.queue.erase e }).send
            (.leftQueueNotice e.slot e.group e.seq m))) ∧
  (∀ (s : State) (m : LinkId),
    s.chooseAll = { s with links := s.chooseAll.links } ∧ s.chooseAll.link m = (s.link m).choose (s.member m).health) ∧
  (∀ (l : LinkEngine) (h : Health),
    let eligible (e : DataEntry) : Bool :=
      decide (0 < l.credits) && !l.gates[e.group.val].awaiting && decide (h ≠ .fenced)
    let control (c : ControlFrame) : Option Build := some (.control c)
    l.choose h =
      if l.sending.isSome ∨ l.build.isSome then l
      else
        { l with
          build :=
            if l.state = .training then (if l.helloPending then control .hello else none)
            else if l.state ≠ .up then none
            else if l.probePending then control .probe
            else if l.fencePending then control .fence
            else if l.rejoinPending then control .rejoin
            else match allGroups.find? fun g => l.gates[g.val].epochPending with
              | some g => control (.epoch g)
              | none =>
                if l.notePending then control .note
                else match l.queue.find? eligible with
                  | some e => some (.data e)
                  | none => none }) ∧
  (∀ (p : PayloadStore) (blocks : List BlockId) (length : Nat),
    let bytes := p.payload blocks length
    let words := payloadWords blocks length
    bytes.length = length ∧ words.length = (length + 7) / 8 ∧
    (∀ i b, i < length → blocks[i / 256]? = some b → bytes[i]? = some (p.byte b (i % 256))) ∧
    (∀ i b, i < (length + 7) / 8 → blocks[i / 32]? = some b → words[i]? = some (32 * b.val + i % 32))) ∧
  (∀ (words : List Nat) (w v : Nat), v ∈ insertWord words w ↔ v = w ∨ v ∈ words)

/-- What becomes of a received frame before its kind is looked at: bytes that fail the length or frame check, or
arrive on an UNBOUND or DOWN link, change nothing; a wrong tag raises ORIGIN alone; otherwise, on an UP link, the
frame counts for liveness, and PROBE_REPLY and the kinds the part does not take do no more (R104 to R106, R113, R117).
FRAME_DISCARDED with bytes that pass is log 23. -/
def Obligations.ReceivedFrameChecks : Prop :=
  (∀ (s : State) (m : LinkId) (f : Frame), s.mirrorSound →
    let l := s.link m
    let heard := s.setLink m { l with heard := true, unanswered := 0 }
    let every (u : State) : Prop :=
      Completes (.helloReply m f) s u ∧ Completes (.ack m f) s u ∧ Completes (.nack m f) s u ∧
      Completes (.epochAck m f) s u ∧ Completes (.rejoinReply m f) s u ∧ Completes (.probeReply m f) s u ∧
      Completes (.noteReply m f) s u ∧ Completes (.frameOfUntakenKind m f) s u
    (l.state = .unbound ∨ l.state = .down → every s) ∧
    (l.state = .training ∨ l.state = .up → l.tag ≠ some f.senderTag → every (s.raise .origin)) ∧
    (l.state = .training → l.tag = some f.senderTag →
      Completes (.ack m f) s s ∧ Completes (.nack m f) s s ∧ Completes (.epochAck m f) s s ∧
      Completes (.rejoinReply m f) s s ∧ Completes (.probeReply m f) s s ∧ Completes (.noteReply m f) s s ∧
      Completes (.frameOfUntakenKind m f) s s) ∧
    (l.state = .up → l.tag = some f.senderTag →
      Completes (.probeReply m f) s heard ∧ Completes (.frameOfUntakenKind m f) s heard ∧
      Completes (.helloReply m f) s heard)) ∧
  (∀ (s : State) (m : LinkId) (bytes : List Byte), s.mirrorSound →
    let bodyLength := ofBE ((bytes.drop 6).take 2)
    (bytes.length ≠ 16 + bodyLength + 4 ∨
      ofBE ((bytes.drop (16 + bodyLength)).take 4) ≠ (crc32 (bytes.take (16 + bodyLength))).toNat ∨
      (s.link m).state = .unbound ∨ (s.link m).state = .down) →
    Completes (.frameDiscarded m bytes) s s)

/-- A HELLO_REPLY with the bound tag in TRAINING: of revision 1 and W from 1 to 32 and no body it brings the link UP
with W credits, open gates and the silence timer running; malformed it changes nothing (R107, R116, R117, R181). That
a HELLO being built is dropped is the model's choice (log 21). -/
def Obligations.HelloReplyBringsUp : Prop :=
  ∀ (s : State) (m : LinkId) (f : Frame), s.mirrorSound → (s.link m).state = .training →
    (s.link m).tag = some f.senderTag →
    let l := s.link m
    let w := f.param.toNat % 65536
    if f.body = [] ∧ f.param.toNat / 65536 = 1 ∧ 1 ≤ w ∧ w ≤ 32 then
      Completes (.helloReply m f) s
        ((s.setLink m
          { l with
            state := .up, w := w, credits := w, outstanding := [], gates := Vector.replicate 16 Gate.idle
            helloTimer := none, helloPending := false, heard := false, unanswered := 0
            silenceTimer := some (s.now + s.notices.probeInterval)
            build := if l.build = some (.control .hello) then none else l.build }).raise .linkChange)
    else Completes (.helloReply m f) s s

/-- An ACK or NACK that finds an outstanding entry, and the entry's ack timer's expiry: the entry is removed and its
credit returns; unless ignored, an ACK is reported to the window, a NACK of INTEGRITY or GAP and the expiry ask for a
retry, and a NACK of FULL or STALE_EPOCH is reported. An ACK that finds no outstanding entry but a
retransmission-marked data entry is reported and the entry leaves, no credit returning; any other unmatched ACK or
NACK is a STRAY; one with a body, a group above 15 or a reason outside 1 to 4 is malformed and only heard (R109, R127
to R129, R131, R132, R181; an expiry with no entry, and the retry limit of an UNDEFINED group, are the model's
choices, log 4 and log 38). -/
def Obligations.AnswersSettleOutstanding : Prop :=
  (∀ (s : State) (m : LinkId) (f : Frame) (g : GroupId), s.mirrorSound → (s.link m).state = .up →
    (s.link m).tag = some f.senderTag → f.body = [] → f.group.toNat = g.val →
    let l := s.link m
    let heard := s.setLink m { l with heard := true, unanswered := 0 }
    let found := l.outstanding.find? fun o => o.group == g && o.seq == f.sequence
    let reason : Prop := 1 ≤ f.param ∧ f.param ≤ 4
    (∀ o, found = some o →
      let limit := match s.group o.group with | none => 0 | some r => r.retryLimit
      let settled := s.setLink m
        { l with heard := true, unanswered := 0, outstanding := l.outstanding.erase o, credits := l.credits + 1 }
      let report (c : Instr) : State := if o.ignored then settled else settled.send c
      Completes (.ack m f) s (report (.ackReport o.slot g f.sequence m)) ∧
      (f.param = 1 ∨ f.param = 2 →
        Completes (.nack m f) s (report (.retryRequest o.slot o.group o.seq m limit))) ∧
      (f.param = 3 → Completes (.nack m f) s (report (.nackReport o.slot o.group o.seq m .staleEpoch))) ∧
      (f.param = 4 → Completes (.nack m f) s (report (.nackReport o.slot o.group o.seq m .full)))) ∧
    (found = none →
      (match l.queue.find? fun e => e.retransmission && e.group == g && e.seq == f.sequence with
      | some e =>
        Completes (.ack m f) s
          (((heard.send (.ackReport e.slot g f.sequence m)).setLink m
            { l with
              heard := true, unanswered := 0, queue := l.queue.erase e
              build := if l.build = some (.data e) then none else l.build }).send
            (.leftQueueNotice e.slot e.group e.seq m))
      | none => Completes (.ack m f) s (heard.raise .stray)) ∧
      (reason → Completes (.nack m f) s (heard.raise .stray))) ∧
    (¬ reason → Completes (.nack m f) s heard)) ∧
  (∀ (s : State) (m : LinkId) (f : Frame), s.mirrorSound → (s.link m).state = .up →
    (s.link m).tag = some f.senderTag → f.body ≠ [] ∨ 15 < f.group.toNat →
    let heard := s.setLink m { s.link m with heard := true, unanswered := 0 }
    Completes (.ack m f) s heard ∧ Completes (.nack m f) s heard) ∧
  (∀ (s : State) (m : LinkId) (g : GroupId) (seq : Seq), s.mirrorSound →
    let l := s.link m
    let limit := match s.group g with | none => 0 | some r => r.retryLimit
    match l.outstanding.find? fun o => o.group == g && o.seq == seq with
    | none => Completes (.ackTimerExpiry m g seq) s s
    | some o =>
      let settled : State :=
        { s.setLink m { l with outstanding := l.outstanding.erase o, credits := l.credits + 1 } with
          now := max s.now o.expiry }
      Completes (.ackTimerExpiry m g seq) s
        (if o.ignored then settled else settled.send (.retryRequest o.slot g seq m limit)))

/-- The gates: a close on an UP link starts the EPOCH exchange afresh and abandons builds of the group, a release
opens the gate and ends the exchange, a matching EPOCH_ACK is a release and any other, one of an UNDEFINED group or of
a group above 15 among them, is only heard, and an EPOCH timer's expiry sends again or, past the retry limit, asks for
a fence of cause EPOCH_LOST (R133 to R135, R181; the limit of an UNDEFINED group is the model's choice, log 38, and an
expiry with no timer running log 4). -/
def Obligations.EpochGates : Prop :=
  ∀ (s : State) (m : LinkId), s.mirrorSound →
    let heard := s.setLink m { s.link m with heard := true, unanswered := 0 }
    (∀ f : Frame, (s.link m).state = .up → (s.link m).tag = some f.senderTag → 15 < f.group.toNat →
      Completes (.epochAck m f) s heard) ∧
    ∀ g : GroupId,
      let gate (u : State) (x : Gate) (drop : Build → Bool) : State :=
        let l := u.link m
        u.setLink m
          { l with gates := l.gates.set g.val x
                   build := match l.build with | none => none | some b => if drop b then none else some b }
      let isEpoch (b : Build) : Bool := b == .control (.epoch g)
      let isData (b : Build) : Bool := match b with | .data e => e.group == g | .control _ => false
      let opened (u : State) : State :=
        gate u { awaiting := false, epochPending := false, timer := none, sends := 0 } isEpoch
      let limit := match s.group g with | none => 0 | some r => r.retryLimit
      Completes (.release m g) s (opened (s.taken (.release m g))) ∧
      ((s.link m).state ≠ .up → Completes (.close m g) s (opened (s.taken (.close m g)))) ∧
      ((s.link m).state = .up →
        Completes (.close m g) s
          (gate (s.taken (.close m g)) { awaiting := true, epochPending := true, timer := none, sends := 0 }
            fun b => isEpoch b || isData b)) ∧
      (∀ f : Frame, (s.link m).state = .up → (s.link m).tag = some f.senderTag → f.group.toNat = g.val →
        if f.body = [] ∧ (s.group g).any (fun r => f.epoch == r.epoch) = true ∧
            (s.link m).gates[g.val].awaiting = true then
          Completes (.epochAck m f) s (opened heard)
        else Completes (.epochAck m f) s heard) ∧
      (∀ t, (s.link m).gates[g.val].timer = some t →
        let x := (s.link m).gates[g.val]
        let u : State := { s with now := max s.now t }
        if x.sends ≤ limit then
          Completes (.epochTimerExpiry m g) s (gate u { x with epochPending := true, timer := none } fun _ => false)
        else
          Completes (.epochTimerExpiry m g) s
            ((gate u { x with timer := none } fun _ => false).send (.fenceRequest m .epochLost))) ∧
      ((s.link m).gates[g.val].timer = none → Completes (.epochTimerExpiry m g) s s)

/-- The membership unit's requests at a link engine: a purge on fence empties the queue with its notices, opens the
gates and, on an UP link, marks the outstanding entries and sets FENCE-pending, and an EXCLUDE that waited for it is
looked at; a W is taken with full credits; the clearing of REJOIN-pending may set FENCE-pending (R136, R138, R148,
R153). The notices' order, by the queue, is the model's choice (log 28). -/
def Obligations.MembershipRequestsAtTheLink : Prop :=
  ∀ (s : State) (m : LinkId) (w : Nat) (fence : Bool), s.mirrorSound →
    let l := s.link m
    let up := l.state = .up
    let taken := s.taken (.purgeOnFence m)
    let isGone (b : Build) : Bool :=
      match b with | .data _ => true | .control (.epoch _) => true | .control _ => false
    Completes (.purgeOnFence m) s
      (State.excludeCheck
        { taken.setLink m
            { l with
              queue := [], gates := Vector.replicate 16 Gate.idle
              build := match l.build with | none => none | some b => if isGone b then none else some b
              outstanding := if up then l.outstanding.map fun o => { o with ignored := true } else l.outstanding
              fencePending := l.fencePending || decide up } with
          inFlight := taken.inFlight ++ l.queue.map fun e => Instr.leftQueueNotice e.slot e.group e.seq m }) ∧
    (if up then
      Completes (.wHandOver m w) s
        ((s.taken (.wHandOver m w)).setLink m { l with w := w, credits := w, outstanding := [] })
    else Completes (.wHandOver m w) s (s.taken (.wHandOver m w))) ∧
    (if up then
      Completes (.fencePendingRequest m fence) s
        ((s.taken (.fencePendingRequest m fence)).setLink m
          { l with
            rejoinPending := false, fencePending := l.fencePending || fence
            build := if l.build = some (.control .rejoin) then none else l.build })
    else Completes (.fencePendingRequest m fence) s (s.taken (.fencePendingRequest m fence)))

/-- A NOTE in flight ends OK with the reply's body at a matching NOTE_REPLY, and NO_REPLY at its timer's expiry; a
reply that matches no sent NOTE, none being in flight among the cases, is a STRAY, and a body above 32 bytes is
malformed (R113, R137, R181; an expiry with no timer running is the model's choice, log 4). -/
def Obligations.NoteEnds : Prop :=
  ∀ (s : State) (m : LinkId) (f : Frame), s.mirrorSound →
    let l := s.link m
    let heard : LinkEngine := { l with heard := true, unanswered := 0 }
    (∀ n, l.note = some n →
      let ended (u : State) (l : LinkEngine) (outcome : OrderOutcome) (result : ResultArea) : State :=
        ((u.setLink m
          { l with
            note := none, noteTimer := none, notePending := false
            build := if l.build = some (.control .note) then none else l.build }).reportOrder n.order outcome
              result).testQuiet
      (∀ t, l.noteTimer = some t →
        Completes (.noteTimerExpiry m) s (ended { s with now := max s.now t } l .noReply .zero)) ∧
      (l.state = .up → l.tag = some f.senderTag → f.body.length ≤ 32 → n.sent = true → n.tag = f.sequence →
        Completes (.noteReply m f) s (ended s heard .ok (.note f.body)))) ∧
    (l.state = .up → l.tag = some f.senderTag →
      (32 < f.body.length → Completes (.noteReply m f) s (s.setLink m heard)) ∧
      (f.body.length ≤ 32 → (∀ n, l.note = some n → n.sent = false ∨ n.tag ≠ f.sequence) →
        Completes (.noteReply m f) s ((s.setLink m heard).raise .stray))) ∧
    (l.noteTimer = none → Completes (.noteTimerExpiry m) s s)

/-- Signal reports train a DOWN link once the coordinator tag is set, take a TRAINING link to DOWN, and let an UP link
fall. The HELLO timer sends the next HELLO; the silence timer looks back over a probe interval: heard, it waits again,
not heard it probes, and at the probe limit the link falls (R115 to R117, R119). That a TRAINING link drops its HELLO
on its way to DOWN, and an expiry with no timer running, are the model's choices (log 21, log 4). -/
def Obligations.SignalsAndLinkTimers : Prop :=
  (∀ (s : State) (m : LinkId), s.mirrorSound →
    let l := s.link m
    let on := s.setLink m { l with signal := true }
    let off := s.setLink m { l with signal := false }
    (if l.state = .down ∧ s.notices.coordinatorTag ≠ 0 then
      Completes (.signalPresent m) s
        ((s.setLink m
          { l with signal := true, state := .training, helloPending := true
                   helloTimer := some (s.now + s.notices.probeInterval) }).raise .linkChange)
    else Completes (.signalPresent m) s on) ∧
    (l.state = .unbound ∨ l.state = .down → Completes (.signalAbsent m) s off) ∧
    (l.state = .training → Completes (.signalAbsent m) s
      ((s.setLink m
        { l with signal := false, state := .down, helloTimer := none, helloPending := false, build := none
                 sending := none }).raise .linkChange)) ∧
    (l.state = .up → Completes (.signalAbsent m) s (off.fall m))) ∧
  (∀ (s : State) (m : LinkId), s.mirrorSound →
    let l := s.link m
    (∀ t, l.helloTimer = some t →
      let u : State := { s with now := max s.now t }
      Completes (.helloTimerExpiry m) s
        (u.setLink m { l with helloPending := true, helloTimer := some (u.now + s.notices.probeInterval) })) ∧
    (l.helloTimer = none → Completes (.helloTimerExpiry m) s s) ∧
    (∀ t, l.silenceTimer = some t →
      let u : State := { s with now := max s.now t }
      let next := some (u.now + s.notices.probeInterval)
      if l.heard then
        Completes (.silenceTimerExpiry m) s (u.setLink m { l with heard := false, silenceTimer := next })
      else if l.unanswered < 3 then
        Completes (.silenceTimerExpiry m) s (u.setLink m { l with probePending := true, silenceTimer := next })
      else Completes (.silenceTimerExpiry m) s (u.fall m)) ∧
    (l.silenceTimer = none → Completes (.silenceTimerExpiry m) s s))

/-- The fall of an UP link: LINK_DOWN reports for the slots it held, left-queue notices, an empty engine in DOWN,
LINK_CHANGE and a fence request of cause LINK_DOWN; a NOTE in flight and then a READMIT in flight end with NO_REPLY,
the READMIT without FENCE-pending; with the signal still present the link trains again (R114, R115, R118, R137, R139,
R153). The order of the LINK_DOWN reports, the left-queue notices and the fence request, and of the reports among one
another, and that a slot with two entries has its report name the data entry's numbers, are the model's choices (log
28, log 29). -/
def Obligations.FallEmptiesTheLink : Prop :=
  ∀ (s : State) (m : LinkId), (s.link m).state = .up →
    let l := s.link m
    let u := s.fall m
    let empty : LinkEngine :=
      { l with
        state := .down, silenceTimer := none, heard := false, unanswered := 0, helloPending := false
        probePending := false, fencePending := false, rejoinPending := false, notePending := false, queue := []
        build := none, outstanding := [], credits := 0, w := 0, gates := Vector.replicate 16 Gate.idle
        sending := none, note := none, noteTimer := if l.note.isSome then none else l.noteTimer }
    let trains : Prop := l.signal = true ∧ s.notices.coordinatorTag ≠ 0
    let keys : List (SlotId × GroupId × Seq) :=
      (l.queue.map fun e => (e.slot, e.group, e.seq)) ++ l.outstanding.map fun o => (o.slot, o.group, o.seq)
    let downs := l.heldSlots
    let firsts (slots : List SlotId) : List SlotId :=
      slots.foldl (fun seen i => if seen.contains i then seen else seen ++ [i]) []
    let emptied : State :=
      { (s.setLink m empty).raise .linkChange with
        inFlight := s.inFlight ++ (downs.map fun k => Instr.linkDownReport k.1 k.2.1 k.2.2 m) ++
          (l.queue.map fun e => Instr.leftQueueNotice e.slot e.group e.seq m) ++ [.fenceRequest m .linkDown] }
    let noted : State :=
      match l.note with
      | none => emptied
      | some n => (emptied.reportOrder n.order .noReply .zero).testQuiet
    let ended : State :=
      match (s.member m).readmit with
      | none => noted
      | some x =>
        ({ noted.setMember m { s.member m with readmit := none, replyTimer := none } with
            inFlight := noted.inFlight ++ [Instr.fencePendingRequest m false, .readmitEnding m false x.offer] }.reportOrder
          x.order .noReply (.readmit (groupSetOf (x.offer.map OfferEntry.group)) 0 none [])).testQuiet
    (downs.all fun k => keys.contains k) = true ∧ downs.map Prod.fst = firsts (keys.map Prod.fst) ∧
    (downs.all fun d => keys.find? (fun k => k.1 == d.1) == some d) = true ∧
    u.lasting =
      (ended.setLink m
        (if trains then
          { empty with
            state := .training, helloPending := true, helloTimer := some (s.now + s.notices.probeInterval) }
        else empty)).lasting

/-! ### Membership and the group table -/

/-- A retry notice makes an ACTIVE member SUSPECT and clears the clean streak of a SUSPECT one; a FENCED member is
left as it is. A clean notice raises the streak of a SUSPECT member, and at 8 makes it ACTIVE; an unclean one clears
the streak; ACTIVE and FENCED members are left as they are (R143, R144). That a row takes its notice off the requests
under way is the model's (log 1). -/
def Obligations.RetryAndCleanStreakNotices : Prop :=
  (∀ (s : State) (m : LinkId), s.mirrorSound →
    let r := s.member m
    let u := s.taken (.retryNotice m)
    match r.health with
    | .active =>
      Completes (.retryNotice m) s ((u.setMember m { r with health := .suspect, streak := 0 }).raise .memberChange)
    | .suspect => Completes (.retryNotice m) s (u.setMember m { r with streak := 0 })
    | .fenced => Completes (.retryNotice m) s u) ∧
  (∀ (s : State) (m : LinkId) (clean : Bool), s.mirrorSound →
    let r := s.member m
    let u := s.taken (.cleanStreakNotice m clean)
    if r.health ≠ .suspect then Completes (.cleanStreakNotice m clean) s u
    else if clean = false then Completes (.cleanStreakNotice m clean) s (u.setMember m { r with streak := 0 })
    else if r.streak + 1 < 8 then
      Completes (.cleanStreakNotice m clean) s (u.setMember m { r with streak := r.streak + 1 })
    else
      Completes (.cleanStreakNotice m clean) s
        ((u.setMember m { r with health := .active, streak := 0 }).raise .memberChange))

/-- A removal request takes the member out of every effective set that holds it, with the epoch's successor, the
derived state and eight gate requests a group, and GROUP_STALL on a fall into STALLED; other groups stay, and an
EXCLUDE that waited for the removal is looked at (R2, R6 to R8, R148). The requests' order by ascending group and link
is the model's choice (log 28). -/
def Obligations.RemovalRequestLeavesGroups : Prop :=
  ∀ (s : State) (m : LinkId), s.mirrorSound →
    let holds (r : GroupRecord) : Bool := r.effective.getLsbD m.val
    let removed (r : GroupRecord) : GroupRecord :=
      let effective := setErase r.effective m
      { r with
        effective := effective, epoch := if r.epoch = 0xFFFF then 1 else r.epoch + 1
        state := if r.quorum ≤ setCard effective then .live else .stalled }
    let stalls (r : GroupRecord) : Bool := holds r && r.state == .live && (removed r).state == .stalled
    let gates (g : GroupId) : List Instr :=
      match s.group g with
      | none => []
      | some r =>
        if holds r then
          allLinks.map fun k => if (removed r).effective.getLsbD k.val then .close k g else .release k g
        else []
    let taken := s.taken (.removalRequest m)
    let u : State :=
      { taken with
        groups := s.groups.map fun r => r.map fun r => if holds r then removed r else r
        inFlight := taken.inFlight ++ allGroups.flatMap gates }
    Completes (.removalRequest m) s
      (if ∃ g, ((s.group g).any stalls) = true then u.raise .groupStall else u).excludeCheck

/-- The end of a READMIT at the group table, for each group of its offer: accepted, the member joins the effective set
with the epoch's successor and the derived state, the eight gate requests are sent, its own link being released when
it was offered that epoch, and GROUP_STALL is raised where a group falls into STALLED; otherwise only the frozen flag
is cleared. An UNDEFINED group is passed over. The clearing of the flags is one event sent to the chain reader, and an
empty offer clears none (R2, R7, R9, R10, R91). The order of the groups and of the gate requests is the model's choice
(log 28). -/
def Obligations.ReadmitEndingAtTheGroups : Prop :=
  ∀ (s : State) (m : LinkId) (offer : List OfferEntry), s.mirrorSound → (offer.map OfferEntry.group).Nodup →
    let accepted := s.taken (.readmitEnding m true offer)
    let ended := s.taken (.readmitEnding m false offer)
    let joined (r : GroupRecord) : GroupRecord :=
      let effective := setInsert r.effective m
      { r with
        effective := effective, frozen := false, epoch := if r.epoch = 0xFFFF then 1 else r.epoch + 1
        state := if r.quorum ≤ setCard effective then .live else .stalled }
    let gates (e : OfferEntry) : List Instr :=
      match s.group e.group with
      | none => []
      | some r =>
        allLinks.map fun k =>
          if k = m ∧ (joined r).epoch = e.epoch then .release k e.group
          else if (joined r).effective.getLsbD k.val then .close k e.group
          else .release k e.group
    let change (f : GroupRecord → GroupRecord) : Vector (Option GroupRecord) 16 :=
      Vector.ofFn fun g =>
        if (offer.any fun e => e.group == g) = true then (s.group g).map f else s.group g
    let cleared : List Instr := if offer = [] then [] else [.frozenFlagsCleared]
    let stalls (r : GroupRecord) : Bool := r.state == .live && (joined r).state == .stalled
    let u : State :=
      { accepted with groups := change joined, inFlight := accepted.inFlight ++ offer.flatMap gates ++ cleared }
    Completes (.readmitEnding m true offer) s
      (if (offer.any fun e => (s.group e.group).any stalls) = true then u.raise .groupStall else u) ∧
    Completes (.readmitEnding m false offer) s
      { ended with groups := change fun r => { r with frozen := false }, inFlight := ended.inFlight ++ cleared }

/-- A REJOIN_REPLY that is well formed, matches the readmit in flight and answers its offer is judged: a refusal ends
it MEMBER_REFUSED; acceptance is judged group by group, a first group that does not match ending it MEMBER_BEHIND or
MEMBER_AHEAD. Judged OK, the member is ACTIVE, its W is handed over and the groups are changed before the report is
queued: their effective sets hold the member and their frozen flags are clear. A malformed reply, or a matched one
whose entries do not answer the offer place by place, changes nothing but liveness, an unmatched one is a STRAY, and
the reply timer's expiry ends the READMIT with NO_REPLY (R76, R112, R150 to R153, R181). How the requests under way
are taken is the model's choice (log 36), and so is an expiry with no timer running (log 4). -/
def Obligations.RejoinReplies : Prop :=
  (∀ (s : State) (m : LinkId) (f : Frame) (x : Readmit), s.mirrorSound → (s.link m).state = .up →
    (s.link m).tag = some f.senderTag → (s.member m).readmit = some x → x.sent = true → x.tag = f.sequence →
    f.body.length % 8 = 0 →
    let l := s.link m
    let r := s.member m
    let w := f.param.toNat % 65536
    let high := f.param.toNat / 65536
    let values := (replyEntries f.body).map Prod.snd
    let groups : GroupSet := groupSetOf (x.offer.map OfferEntry.group)
    let heard := s.setLink m { l with heard := true, unanswered := 0 }
    let answers : Prop := (x.offer.map fun e => BitVec.ofNat 8 e.group.val) = (replyEntries f.body).map Prod.fst
    let ends (msgs : List Instr) (outcome : OrderOutcome) (result : ResultArea) : State :=
      let cleared := heard.setMember m { r with readmit := none, replyTimer := none }
      ({ cleared with inFlight := cleared.inFlight ++ msgs }.reportOrder x.order outcome result).testQuiet
    let fits (p : OfferEntry × Seq) : Bool :=
      (p.1.next != 0 && p.2 == p.1.next - 1) || (p.1.atBase && p.2 == 0xFFFFFFFF)
    (answers → high = 0 →
      Completes (.rejoinReply m f) s
        (ends [Instr.fencePendingRequest m false, Instr.readmitEnding m false x.offer] .memberRefused
          (.readmit groups 0 none []))) ∧
    (answers → high = 1 → 1 ≤ w → w ≤ 32 →
      match (x.offer.zip values).find? fun p => !fits p with
      | none =>
        let active :=
          (heard.setMember m
            { r with readmit := none, replyTimer := none, health := .active, streak := 0 }).raise .memberChange
        let asked : State := { active with inFlight := active.inFlight ++ [.wHandOver m w, .readmitEnding m true x.offer] }
        let changed : State := (asked.inFlight.foldl (fun u c =>
          match c with
          | .removalRequest k => (u.taken c).removeMember k
          | .readmitEnding k accepted offer => (u.taken c).endReadmission k accepted offer
          | .purgeOnFence k => (u.taken c).purge k
          | .wHandOver k w => (u.taken c).handOverW k w
          | .fencePendingRequest k fence => (u.taken c).requestFence k fence
          | _ => u) asked).excludeCheck
        ∃ t, exec (.rejoinReply m f) s = .next t ∧
          t.lasting = (changed.reportOrder x.order .ok (.readmit groups w none values)).testQuiet.chooseAll.lasting ∧
          (t.link m).w = w ∧ (t.link m).credits = w ∧
          (x.offer.all fun e => (t.group e.group).all fun r => r.effective.getLsbD m.val && !r.frozen) = true
      | some p =>
        Completes (.rejoinReply m f) s
          (ends [Instr.fencePendingRequest m true, Instr.readmitEnding m false x.offer]
            (if p.2 = 0xFFFFFFFF ∨ p.2.toNat + 1 < p.1.next.toNat then .memberBehind else .memberAhead)
            (.readmit groups 0 (some p.1.group) values))) ∧
    (¬ answers → Completes (.rejoinReply m f) s heard)) ∧
  (∀ (s : State) (m : LinkId) (f : Frame), s.mirrorSound →
    let l := s.link m
    let r := s.member m
    let heard := s.setLink m { l with heard := true, unanswered := 0 }
    let high := f.param.toNat / 65536
    let w := f.param.toNat % 65536
    let malformed : Prop := f.body.length % 8 ≠ 0 ∨ 1 < high ∨ (high = 1 ∧ (w = 0 ∨ 32 < w))
    (l.state = .up → l.tag = some f.senderTag → malformed → Completes (.rejoinReply m f) s heard) ∧
    (l.state = .up → l.tag = some f.senderTag → ¬ malformed →
      (∀ x, r.readmit = some x → x.sent = false ∨ x.tag ≠ f.sequence) →
      Completes (.rejoinReply m f) s (heard.raise .stray)) ∧
    (∀ t x, r.replyTimer = some t → r.readmit = some x →
      let u : State := { s with now := max s.now t }
      Completes (.replyTimerExpiry m) s
        (({ u.setMember m { r with readmit := none, replyTimer := none } with
            inFlight := s.inFlight ++ [Instr.fencePendingRequest m true, Instr.readmitEnding m false x.offer] }.reportOrder x.order
              .noReply (.readmit (groupSetOf (x.offer.map OfferEntry.group)) 0 none [])).testQuiet)) ∧
    (r.replyTimer = none → Completes (.replyTimerExpiry m) s s))

/-! ### The chain reader's re-checks and report writes -/

/-- The re-checks of a hold: on an event of the hold's reason a record whose hold no longer applies is fetched afresh;
in any other case the event changes nothing (R87, R91). -/
def Obligations.HoldReChecks : Prop :=
  ∀ s : State, s.mirrorSound →
    let check (c : Instr) (reason : HeldReason) : Prop :=
      let u := s.taken c
      let go : State := { u with chain := { s.chain with state := .fetching, heldReason := .none } }
      let a := s.chain.fetchAddr.getD s.chain.walkPointer
      (s.chain.state ≠ .held ∨ s.chain.heldReason ≠ reason → Completes c s u) ∧
      (∀ r, s.chain.state = .held → s.chain.heldReason = reason → s.chain.fetched = some r →
        if s.holdApplies r reason then Completes c s u
        else if 64 ≤ s.chain.reserved then Completes c s { go with chain := { go.chain with walk := .awaitRefetch } }
        else
          let v : State :=
            { go with chain :=
                { go.chain with reserved := s.chain.reserved + 1, fetchAddr := some a, walk := .record } }
          if a.toNat + 127 < 2 ^ 48 then
            CompletesAsking c s v { kind := .record, addr := a, len := 128, data := [], abandoned := false }
          else Completes c s v.chainFault)
    check .slotRelease .slot ∧ check .blockRelease .store ∧ check .quarantineNotice .store ∧
      check .frozenFlagsCleared .frozen

/-- The answers to a fit query, for any payload length: the first of R50's conditions that holds decides, and nothing
in the store is read but the counts of its two lists (R50). -/
def Obligations.FitQueryAnswers : Prop :=
  ∀ (p : PayloadStore) (length : Nat),
    let need := (length + 255) / 256
    p.fit length =
      if length = 0 ∨ 4096 < length then .fits
      else if 256 - p.quarantine.length < need then .never
      else if p.free.length < need then .wait
      else .fits

/-- The report writes: the result area is followed by the outcome byte and that by the DONE state byte; the DONE write
raises the tally and DONE, frees the place, sends the slot's write end, begins the next report and starts the fetch,
the fetch of a held record or the re-read that waited for a place. The first write in error starts the 8 us timer,
whose expiry asks for the same write again; a second gives the report up with SYSTEM_FAULT, the unreported address,
the slot's write end and the FAULTED state. In QUIESCING a chain reader with no report, no claim in progress and no
held BARRIER sends the chain-quiet report (R84, R90, R91, R95 to R97, R101, R160). An expiry with no timer running is
the model's choice (log 4), the clock log 2. -/
def Obligations.ReportWrites : Prop :=
  (∀ (s : State) (q : MemRequest) (r : Report) (rest : List Report), s.mirrorSound → s.port.current = some q →
    q.abandoned = false → s.chain.reports = r :: rest → r.order.toNat + 127 < 2 ^ 48 →
    let c := s.chain
    (q.kind = .resultArea →
      CompletesAsking .resultAreaWrite s { s with chain := { c with reporter := .writing .outcome } }
        { kind := .outcome, addr := r.order + 3, len := 1, data := [r.outcome.code], abandoned := false }) ∧
    (q.kind = .outcome →
      CompletesAsking .outcomeWrite s { s with chain := { c with reporter := .writing .done } }
        { kind := .done, addr := r.order, len := 1, data := [0x03], abandoned := false }) ∧
    (q.kind = .done →
      let done : State :=
        { s.freeResource with
          chain := { c with reports := rest, reserved := c.reserved - 1, retryTimer := none }
          notices := { s.notices with doneTally := s.notices.doneTally + 1 } }.raise .done
      let ended := match r.slot with | none => done | some i => done.send (.reportWriteEnd i)
      Completes .doneWrite s ended.beginReport.restartWaiting.reportQuiet)) ∧
  (∀ (s : State) (q : MemRequest) (r : Report) (rest : List Report) (stage : ReportStage), s.mirrorSound →
    s.chain.reports = r :: rest →
    let c := s.chain
    (s.port.current = some q → (q.kind = .resultArea ∨ q.kind = .outcome ∨ q.kind = .done) → q.abandoned = false →
      c.reporter = .writing stage →
      if c.retryUsed then
        let gone : State :=
          { s.freeResource with
            chain :=
              { c with
                unreported := if c.unreported = 0 then r.order else c.unreported
                reports := rest, reserved := c.reserved - 1, retryTimer := none } }.raise .systemFault
        let ended := match r.slot with | none => gone | some i => gone.send (.reportWriteEnd i)
        Completes .reportWriteFault s ended.enterFaulted.beginReport.reportQuiet
      else
        Completes .reportWriteFault s
          { s with chain := { c with reporter := .retryWait stage, retryTimer := some (s.now + 8) } }) ∧
    (∀ t, c.retryTimer = some t → c.reporter = .retryWait stage → (r.request stage).refused = false →
      CompletesAsking .reportRetryExpiry s
        { s with now := max s.now t
                 chain := { c with retryTimer := none, retryUsed := true, reporter := .writing stage } }
        (r.request stage)) ∧
    (c.retryTimer = none → Completes .reportRetryExpiry s s)) ∧
  (∀ u : State,
    let c := u.chain
    let full : Prop := 64 ≤ c.reserved
    let asking (step : WalkStep) (state : ChainState) (reason : HeldReason) (fetch : Option Addr) (kind : RequestKind)
        (addr : Addr) (len : Nat) : State :=
      let v : State :=
        { u with chain :=
            { c with
              state := state, heldReason := reason, fetchAddr := fetch, reserved := c.reserved + 1, walk := step } }
      if 2 ^ 48 ≤ addr.toNat + len - 1 then v.chainFault
      else
        { v with port :=
            { u.port with
              waitWalk := some { kind := kind, addr := addr, len := len, data := [], abandoned := false } } }
    let target := c.fetchAddr.getD c.walkPointer
    u.restartWaiting =
      match c.walk with
      | .awaitFetch =>
        if full then { u with chain := { c with state := .fetching } }
        else if c.anchor then
          asking .nextField .fetching c.heldReason c.fetchAddr .nextField (c.walkPointer + 8) 8
        else asking .record .fetching c.heldReason (some c.walkPointer) .record c.walkPointer 128
      | .awaitRefetch =>
        if full then { u with chain := { c with state := .fetching, heldReason := .none } }
        else asking .record .fetching .none (some target) .record target 128
      | .awaitReRead =>
        if full then u
        else match c.waitingFor with
          | .link => asking .reRead c.state c.heldReason c.fetchAddr .reRead (c.walkPointer + 8) 8
          | .post => asking .reRead c.state c.heldReason c.fetchAddr .reRead target 128
      | _ => u) ∧
  (∀ u : State,
    let c := u.chain
    u.reportQuiet =
      if u.port.run = .quiescing ∧ c.reports = [] ∧ c.walk ≠ .takenWrite ∧ c.walk ≠ .dispatching ∧
          c.heldBarrier = none then
        { u with inFlight := u.inFlight ++ [.chainQuiet] }
      else u) ∧
  (∀ u : State,
    let c := u.chain
    match c.reports with
    | [] => u.beginReport = { u with chain := { c with reporter := .idle } }
    | r :: _ =>
      let write : MemRequest :=
        { kind := .resultArea, addr := r.order + 0x50, len := 48, data := r.result.bytes, abandoned := false }
      u.beginReport =
        if 2 ^ 48 ≤ write.addr.toNat + 47 then
          { u with chain :=
              { c with
                retryUsed := false, reporter := .retryWait .resultArea, retryTimer := some (u.now + 8) } }
        else
          { u with
            chain := { c with retryUsed := false, reporter := .writing .resultArea }
            port := { u.port with waitReport := some write } }) ∧
  (∀ r : Report,
    r.request .resultArea =
      { kind := .resultArea, addr := r.order + 0x50, len := 48, data := r.result.bytes, abandoned := false } ∧
    r.request .outcome =
      { kind := .outcome, addr := r.order + 3, len := 1, data := [r.outcome.code], abandoned := false } ∧
    r.request .done = { kind := .done, addr := r.order, len := 1, data := [0x03], abandoned := false })

/-- The completion of a request that its requester has given up. The resource is free for the next request, which is
all that comes of a walk read, of a TAKEN write after a HALT, of a payload piece read, of a report write or of a fault
of one; a DONE write still raises the tally and DONE. The mirror write that a SETUP or a RESET abandoned is over at
its completion, good or bad, and the next one begins where R162 has it begin (R58, R89, R98, R100, R160, R162, R165,
R171, R182). -/
def Obligations.GivenUpCompletions : Prop :=
  ∀ (s : State) (q : MemRequest), s.mirrorSound → s.port.current = some q → q.abandoned = true →
    let n := s.notices
    let ends (c : Instr) : Prop :=
      ∃ t, exec c s = .next t ∧ t.lasting = s.chooseAll.lasting ∧
        (n.mirrorState ≠ .on → t.notices = n ∧ t.port = { s.port with current := none }.arbitrate)
    let mirrorEnds (c : Instr) : Prop :=
      ∃ t, exec c s = .next t ∧ t.lasting = s.chooseAll.lasting ∧
        if n.mirrorState = .on ∧ n.dirty = true ∧ n.intervalTimer = none then
          t.notices.writeInFlight = true ∧ t.notices.dirty = false ∧ t.notices.generation = n.generation + 1 ∧
            t.asks
              { kind := .mirrorLeading, addr := n.mirrorBase, len := 4, data := toLE 4 (n.generation + 1).toNat
                abandoned := false }
        else t.notices = { n with writeInFlight := false } ∧ t.port = { s.port with current := none }.arbitrate
    (q.kind = .nextField → ∀ v, ends (.nextFieldRead v)) ∧
    (q.kind = .record → ∀ bytes, ends (.recordRead bytes)) ∧
    (q.kind = .reRead → ∀ bytes, ends (.reRead bytes)) ∧
    (q.kind = .takenWrite → ∀ ok, ends (.takenWrite ok)) ∧
    (q.kind = .piece → ∀ bytes, ends (.pieceRead bytes)) ∧
    (q.kind = .resultArea → ends .resultAreaWrite) ∧
    (q.kind = .outcome → ends .outcomeWrite) ∧
    (q.kind = .resultArea ∨ q.kind = .outcome ∨ q.kind = .done → ends .reportWriteFault) ∧
    (q.kind = .done →
      Completes .doneWrite s ({ s with notices := { n with doneTally := n.doneTally + 1 } }.raise .done)) ∧
    (q.kind = .mirrorLeading → mirrorEnds .mirrorLeadingWrite) ∧
    (q.kind = .mirrorBody → mirrorEnds .mirrorBodyWrite) ∧
    (q.kind = .mirrorTrailing → mirrorEnds .mirrorTrailingWrite) ∧
    (q.kind = .mirrorLeading ∨ q.kind = .mirrorBody ∨ q.kind = .mirrorTrailing → mirrorEnds .mirrorWriteFault)

/-! ### The status mirror -/

/-- A mirror write begins in ON with the dirty flag set, no write in flight and no interval running: the flag is
cleared, the generation count rises and the leading count is asked for; the body follows, gathered then, and the
trailing count, each at its place in the block. The trailing count's completion and the interval's expiry, where the
flag is set and nothing else keeps the next write back, begin it. One in error stops: the mirror is BROKEN,
SYSTEM_FAULT is raised, and the interrupt follows the active notices (R161 to R164, R166). A begin row taken alone
acts as the begin inside an event does (log 30). -/
def Obligations.MirrorWrites : Prop :=
  (∀ (s : State) (q : MemRequest), s.mirrorSound → s.notices.mirrorState = .on →
    let n := s.notices
    let request (kind : RequestKind) (offset : Addr) (bytes : List Byte) : MemRequest :=
      { kind := kind, addr := n.mirrorBase + offset, len := bytes.length, data := bytes, abandoned := false }
    let begun (now : Nat) (t : State) : Prop :=
      t.notices.dirty = false ∧ t.notices.generation = n.generation + 1 ∧ t.notices.writeInFlight = true ∧
        t.notices.intervalTimer = (if n.mirrorInterval = 0 then none else some (now + n.mirrorInterval)) ∧
        t.asks (request .mirrorLeading 0 (toLE 4 (n.generation + 1).toNat))
    (n.dirty = true → n.writeInFlight = false → n.intervalTimer = none →
      ∃ t, exec .mirrorWriteBegin s = .next t ∧ t.lasting = s.chooseAll.lasting ∧ begun s.now t) ∧
    (s.port.current = some q → q.abandoned = false → n.writeInFlight = true →
      (q.kind = .mirrorLeading → ∃ t, exec .mirrorLeadingWrite s = .next t ∧ t.lasting = s.chooseAll.lasting ∧
        t.notices = n ∧ t.asks (request .mirrorBody 4 s.status.bytes)) ∧
      (q.kind = .mirrorBody → ∃ t, exec .mirrorBodyWrite s = .next t ∧ t.lasting = s.chooseAll.lasting ∧
        t.notices = n ∧ t.asks (request .mirrorTrailing 508 (toLE 4 n.generation.toNat))) ∧
      (q.kind = .mirrorTrailing → ∃ t, exec .mirrorTrailingWrite s = .next t ∧ t.lasting = s.chooseAll.lasting ∧
        (n.active ≠ 0 → t.port.latch = true) ∧
        if n.dirty = true ∧ n.intervalTimer = none then begun s.now t
        else t.notices = { n with writeInFlight := false })) ∧
    (∀ e, n.intervalTimer = some e →
      let u : State := { s with now := max s.now e }
      ∃ t, exec .intervalTimerExpiry s = .next t ∧ t.lasting = u.chooseAll.lasting ∧
        if n.dirty = true ∧ n.writeInFlight = false then begun u.now t
        else t.notices = { n with intervalTimer := none })) ∧
  (∀ (s : State) (q : MemRequest), s.port.current = some q →
    (q.kind = .mirrorLeading ∨ q.kind = .mirrorBody ∨ q.kind = .mirrorTrailing) → q.abandoned = false →
    let n := s.notices
    let raw := n.raw ||| Notice.systemFault.flag
    ∃ t, exec .mirrorWriteFault s = .next t ∧
      t.lasting = { s with notices := { n with mirrorState := .broken, raw := raw } }.chooseAll.lasting ∧
      t.notices.writeInFlight = false ∧ t.notices.intervalTimer = none ∧ t.notices.generation = n.generation ∧
      t.port.latch = (s.port.latch || raw &&& ~~~n.mask != 0))

/-- The dirty flag. The group table marks each change of a group's six mirrored fields as it is made. An event that
changes a mirrored field leaves the flag set, or begins the mirror write that clears it; so does a READMIT before
whose offer an earlier READMIT's ending clears a frozen flag, be the group frozen again; a flag that is set stays so
until a write begins; and a NOTICE write, a MASK write and a SETUP that is taken set it whatever else they change. A
RESET and a power-on leave it set (R15, R146, R157 to R159, R161, R162, R165, R167). That the other blocks' changes of
an event are marked together at its end is the model's reading (log 16). -/
def Obligations.DirtyFlagFollowsChanges : Prop :=
  (∀ (s : State) (g : GroupId) (r : Option GroupRecord),
    let shown (x : Option GroupRecord) :=
      x.map fun r => (r.state, r.epoch, r.next, r.settle, r.effective, r.frozen)
    (s.setGroup g r).notices.dirty = (s.notices.dirty || decide (shown (s.group g) ≠ shown r))) ∧
  ∀ (s t : State) (c : Instr), s.mirrorSound → exec c s = .next t →
    let n := t.notices
    let marked : Prop :=
      n.dirty = true ∨ (n.dirty = false ∧ n.writeInFlight = true ∧ n.generation = s.notices.generation + 1)
    (t.status ≠ s.status → marked) ∧ (s.notices.dirty = true → marked) ∧
    (∀ (order : Addr) (rec : Record) (m k : LinkId) (offer : List OfferEntry) (e : OfferEntry) (r : GroupRecord),
      c = .readmit order rec → rec.link? = some m → .readmitEnding k false offer ∈ s.inFlight → e ∈ offer →
      s.group e.group = some r → r.frozen = true → marked) ∧
    (∀ w : Word32, c = .notice w ∨ c = .mask w → marked) ∧
    (∀ (order : Addr) (rec : Record), c = .setup order rec →
      let f := rec.setupFields
      f.coordinatorTag ≠ 0 →
      (f.mirrorBase = 0 ∨ (f.mirrorBase.toNat % 64 = 0 ∧ f.mirrorBase.toNat + 511 < 2 ^ 48)) →
      f.mirrorInterval ≤ 1023 → 100 ≤ f.probeInterval →
      (f.coordinatorTag = s.notices.coordinatorTag ∨
        ∀ m, (s.link m).state ≠ .training ∧ (s.link m).state ≠ .up) → marked) ∧
    (c = .reset ∨ c = .powerOnReset ∨ c = .portReset → n.dirty = true)

/-- The mirror's body, byte by byte, for any state of the part: the 504 bytes at offsets 004h to 1FBh of the block;
and what reads of the register window return: the six registers' words, zero at 18h to 1Fh, and any addressed bytes of
them (R163, R177, R179, R180, 11.4, 11.5). -/
def Obligations.MirrorBodyAndRegisterReads : Prop :=
  ∀ s : State,
    let n := s.notices
    let c := s.chain
    let run : Byte := match s.port.run with
      | .stopped => 0 | .running => 1 | .quiescing => 2 | .quiesced => 3 | .halted => 4
    let chain : Byte := match c.state with
      | .stopped => 0 | .idle => 1 | .fetching => 2 | .linkWait => 3 | .held => 4 | .faulted => 5
    let held : Byte := match c.heldReason with | .none => 0 | .slot => 1 | .store => 2 | .frozen => 3 | .barrier => 4
    let body := s.status.bytes
    let at_ (offset : Nat) (bytes : List Byte) : Prop := (body.drop (offset - 4)).take bytes.length = bytes
    body.length = 504 ∧ at_ 0x04 [0x08, 0x5C, 1, 0] ∧ at_ 0x08 (toLE 2 n.raw.toNat) ∧
    at_ 0x0A (toLE 2 (n.raw &&& ~~~n.mask).toNat) ∧ at_ 0x0C [run, chain, held, 0] ∧
    at_ 0x10 (toLE 2 c.pendingPosts) ∧
    at_ 0x12 [BitVec.ofNat 8 (allSlots.countP fun i => (s.slot i).isSome), 0] ∧
    at_ 0x14 (toLE 2 s.store.free.length) ∧ at_ 0x16 (toLE 2 s.store.quarantine.length) ∧
    at_ 0x18 (toLE 8 c.walkPointer.toNat) ∧ at_ 0x20 (toLE 8 c.unreported.toNat) ∧
    at_ 0x28 (toLE 4 n.doneTally.toNat) ∧ at_ 0x2C (zeros 20) ∧ at_ 0x180 (zeros 124) ∧
    (∀ m : LinkId,
      let l := s.link m
      let state : Byte := match l.state with | .unbound => 0 | .down => 1 | .training => 2 | .up => 3
      let health : Byte := match (s.member m).health with | .fenced => 0 | .active => 1 | .suspect => 2
      let cause : Byte := match (s.member m).cause with
        | none => 0
        | some .lost => 4 | some .full => 5 | some .staleEpoch => 6 | some .linkDown => 7 | some .deadline => 8
        | some .poison => 9 | some .epochLost => 10 | some .admin => 11 | some .reset => 12
      at_ (0x40 + 8 * m.val)
        ([state, health, cause, BitVec.ofNat 8 l.w, BitVec.ofNat 8 l.credits, 0] ++
          toLE 2 (match l.tag with | none => 0 | some tag => tag.toNat))) ∧
    (∀ g : GroupId, at_ (0x80 + 16 * g.val)
      (match s.group g with
      | none => zeros 16
      | some r =>
        [match r.state with | .live => 1 | .stalled => 2, r.effective, if r.frozen then 1 else 0, 0] ++
          toLE 2 r.epoch.toNat ++ [0, 0] ++ toLE 4 r.next.toNat ++ toLE 4 r.settle.toNat)) ∧
    (let window :=
      toLE 4 s.port.originLo.toNat ++ toLE 4 s.port.originHi.toNat ++ toLE 4 c.pendingPosts ++ [run, chain, 0, 0] ++
        toLE 4 n.raw.toNat ++ toLE 4 n.mask.toNat ++ zeros 8
    ∀ offset bytes : Nat, s.readWindow offset bytes = (window.drop offset).take bytes)

/-- What every event leaves behind: the arbiter issues the waiting request of the highest class whenever the resource
is free; with no mirror kept, a change of the active notices to a set not all clear leaves the latch set; and the
latch is set only while an active notice stands (R100, R166). A RESET clears the latch in its midst and is left out of
the count. That the arbiter acts at the end of an event, and the interrupt at each raise, and the count of messages
sent, are the model's (log 10, log 17). -/
def Obligations.ArbiterAndInterrupt : Prop :=
  (∀ p : SystemPort, p.current = none →
    (∀ r, p.waitReport = some r → p.arbitrate = { p with current := some r, waitReport := none }) ∧
    (∀ r, p.waitReport = none → p.waitMirror = some r →
      p.arbitrate = { p with current := some r, waitMirror := none }) ∧
    (∀ r, p.waitReport = none → p.waitMirror = none → p.waitWalk = some r →
      p.arbitrate = { p with current := some r, waitWalk := none }) ∧
    (∀ r, p.waitReport = none → p.waitMirror = none → p.waitWalk = none → p.waitPayload = some r →
      p.arbitrate = { p with current := some r, waitPayload := none })) ∧
  (∀ (c : Instr) (s t : State), exec c s = .next t →
    let resets : Bool :=
      match c with
      | .reset => true
      | .runInvalidCommand w | .registerWrite _ _ w => w.toNat % 16 == 4
      | _ => false
    let clears : Bool := match c with | .notice _ | .registerWrite _ _ _ => true | _ => false
    (t.port.current = none → t.port.waitReport = none ∧ t.port.waitMirror = none ∧ t.port.waitWalk = none ∧
      t.port.waitPayload = none) ∧
    (t.notices.mirrorState ≠ .on → t.notices.active ≠ s.notices.active → t.notices.active ≠ 0 →
      t.port.latch = true) ∧
    (s.port.latch = false → t.port.latch = true → t.notices.active ≠ 0) ∧
    (resets = false → s.port.latch = false → t.port.latch = true →
      t.port.interruptsSent = s.port.interruptsSent + 1) ∧
    (resets = false → t.port.interruptsSent ≠ s.port.interruptsSent →
      t.port.latch = true ∧ t.port.interruptsSent = s.port.interruptsSent + 1 ∧
        (s.port.latch = true → clears = true))) ∧
  (∀ r : MemRequest, r.refused = true ↔ 2 ^ 48 ≤ r.addr.toNat + r.len - 1) ∧
  (∀ s : State, s.freeResource = { s with port := { s.port with current := none } }) ∧
  [RequestKind.resultArea, .outcome, .done, .mirrorLeading, .mirrorBody, .mirrorTrailing, .nextField, .record,
    .takenWrite, .reRead, .piece].map RequestKind.cls =
    [.report, .report, .report, .mirror, .mirror, .mirror, .walk, .walk, .walk, .walk, .payload]

/-- The one memory-request resource at every event. A request in flight stays there until its own completion arrives;
until then it may be given up, where its requester drops what it has asked for. A completion frees the resource,
whether the request was given up or not. A free resource is handed to the waiting request of the highest class: what
is in flight or waits afterwards is a request that waited before, or the one that its requester has asked for in this
event and now waits for, and no waiting request is lost but where its requester drops it (R54, R58, R84, R89, R90,
R96, R98, R100, R102, R163, R165, R171). That the arbiter acts at the end of an event, that a completion with no such
request in flight changes nothing, and that a walk request not issued is withdrawn are the model's choices (log 10,
log 4, log 11). -/
def Obligations.RequestsStayUntilTheyComplete : Prop :=
  ∀ (s t : State) (c : Instr), exec c s = .next t →
    let completes (kind : RequestKind) : Bool :=
      match c with
      | .nextFieldRead _ => kind == .nextField
      | .recordRead _ => kind == .record
      | .reRead _ => kind == .reRead
      | .takenWrite _ => kind == .takenWrite
      | .pieceRead _ => kind == .piece
      | .resultAreaWrite => kind == .resultArea
      | .outcomeWrite => kind == .outcome
      | .doneWrite => kind == .done
      | .reportWriteFault => kind == .resultArea || kind == .outcome || kind == .done
      | .mirrorLeadingWrite => kind == .mirrorLeading
      | .mirrorBodyWrite => kind == .mirrorBody
      | .mirrorTrailingWrite => kind == .mirrorTrailing
      | .mirrorWriteFault => kind == .mirrorLeading || kind == .mirrorBody || kind == .mirrorTrailing
      | _ => false
    let powers : Prop := c = .powerOnReset ∨ c = .portReset
    let command (n : Nat) : Bool :=
      match c with
      | .runInvalidCommand w => w.toNat % 16 == n
      | .registerWrite offset _ w => offset.val == 0x0C && w.toNat % 16 == n
      | _ => false
    let resets : Prop := powers ∨ c = .reset ∨ command 4 = true
    let halts : Prop := resets ∨ c = .halt ∨ command 3 = true
    let setsUp : Bool :=
      match c with
      | .setup _ _ => true
      | .takenWrite ok => ok && (s.chain.fetched.any fun r => r.kind == 0x02)
      | _ => false
    let drops (k : RequestClass) : Prop :=
      match k with
      | .report | .payload => halts
      | .mirror => resets ∨ setsUp = true
      | .walk => halts ∨ c = .quiesce ∨ command 2 = true ∨ t.chain.state = .faulted
    let seat (u : State) (k : RequestClass) : Option MemRequest :=
      match k with
      | .report => u.port.waitReport
      | .mirror => u.port.waitMirror
      | .walk => u.port.waitWalk
      | .payload => u.port.waitPayload
    let request (kind : RequestKind) (addr : Addr) (len : Nat) (data : List Byte) : MemRequest :=
      { kind := kind, addr := addr, len := len, data := data, abandoned := false }
    let n := t.notices
    let asked (r : MemRequest) : Prop :=
      match r.kind with
      | .resultArea | .outcome | .done =>
        match t.chain.reporter, t.chain.reports with
        | .writing stage, report :: _ => r = report.request stage
        | _, _ => False
      | .mirrorLeading =>
        n.writeInFlight = true ∧ n.generation = s.notices.generation + 1 ∧
          r = request .mirrorLeading n.mirrorBase 4 (toLE 4 n.generation.toNat)
      | .mirrorBody => c = .mirrorLeadingWrite ∧ r = request .mirrorBody (n.mirrorBase + 4) 504 s.status.bytes
      | .mirrorTrailing =>
        c = .mirrorBodyWrite ∧ r = request .mirrorTrailing (n.mirrorBase + 508) 4 (toLE 4 s.notices.generation.toNat)
      | .nextField => t.chain.walk = .nextField ∧ r = request .nextField (t.chain.walkPointer + 8) 8 []
      | .record => t.chain.walk = .record ∧ t.chain.fetchAddr = some r.addr ∧ r = request .record r.addr 128 []
      | .reRead =>
        t.chain.walk = .reRead ∧
          match t.chain.waitingFor with
          | .link => r = request .reRead (t.chain.walkPointer + 8) 8 []
          | .post => r = request .reRead (t.chain.fetchAddr.getD t.chain.walkPointer) 128 []
      | .takenWrite =>
        t.chain.walk = .takenWrite ∧
          r = request .takenWrite (t.chain.fetchAddr.getD t.chain.walkPointer) 1 [0x02]
      | .piece =>
        match t.store.loaderQueue, t.store.load with
        | i :: _, some l =>
          ∃ x, t.slot i = some x ∧
            let blocks := (x.length + 255) / 256
            r = request .piece (x.payloadAddr + BitVec.ofNat 64 (256 * l.piece))
              (if l.piece + 1 < blocks then 256 else x.length - 256 * (blocks - 1)) []
        | _, _ => False
    let comes (k : RequestClass) (r : MemRequest) : Prop := seat s k = some r ∨ (asked r ∧ r.kind.cls = k)
    let p := t.port
    (∀ q, s.port.current = some q → completes q.kind = false → ¬ powers →
      p.current = some q ∨ (drops q.kind.cls ∧ p.current = some { q with abandoned := true })) ∧
    ((∀ q, s.port.current = some q → completes q.kind = true) → ∀ r, p.current = some r →
      (comes .report r ∧ p.waitReport = none) ∨
      (comes .mirror r ∧ p.waitReport = none ∧ p.waitMirror = none) ∨
      (comes .walk r ∧ p.waitReport = none ∧ p.waitMirror = none ∧ p.waitWalk = none) ∨
      (comes .payload r ∧ p.waitReport = none ∧ p.waitMirror = none ∧ p.waitWalk = none ∧ p.waitPayload = none)) ∧
    (∀ k r, seat t k = some r → comes k r) ∧
    (∀ k r, seat s k = some r →
      seat t k = some r ∨ p.current = some r ∨ drops k ∨ (∃ x, seat t k = some x ∧ asked x) ∨
        ∃ x, p.current = some x ∧ asked x ∧ x.kind.cls = k)

/-! ### Formats -/

/-- The layouts of chapter 11, written out: the 48 bytes of each kind's result area with every other byte zero, the
codes of outcomes, member results and fence causes, the parameter fields of each kind of record, the header, body and
check of a frame, the entries of a REJOIN and of a REJOIN_REPLY, the orders of bytes, the masks of sets, and the CRC
with its check value (R40, R55, R63, R68, R76, R78, R79, R103, R104, R180, 11.2, 11.3). -/
def Obligations.RecordAndFrameFormats : Prop :=
  (∀ v : Nat,
    let byte (k : Nat) : Byte := BitVec.ofNat 8 (v / 256 ^ k)
    toLE 2 v = [byte 0, byte 1] ∧ toLE 4 v = [byte 0, byte 1, byte 2, byte 3] ∧ toBE 2 v = [byte 1, byte 0] ∧
    toBE 4 v = [byte 3, byte 2, byte 1, byte 0] ∧
    toLE 8 v = [byte 0, byte 1, byte 2, byte 3, byte 4, byte 5, byte 6, byte 7] ∧
    toBE 8 v = [byte 7, byte 6, byte 5, byte 4, byte 3, byte 2, byte 1, byte 0]) ∧
  (ofLE [] = 0 ∧ ∀ (b : Byte) (bs : List Byte),
    ofLE (b :: bs) = b.toNat + 256 * ofLE bs ∧ ofBE bs = ofLE bs.reverse) ∧
  (∀ (x : MemberSet) (m k : LinkId),
    setHas x m = x.getLsbD m.val ∧ (setInsert x m).getLsbD k.val = (x.getLsbD k.val || k == m) ∧
    (setErase x m).getLsbD k.val = (x.getLsbD k.val && k != m) ∧
    setCard x = allLinks.countP fun m => x.getLsbD m.val) ∧
  (∀ (p : LinkId → Bool) (m : LinkId), (Machine.setOf p).getLsbD m.val = p m) ∧
  (∀ (gs : List GroupId) (g : GroupId), (groupSetOf gs).getLsbD g.val = gs.contains g) ∧
  (∀ (seq settle : Seq) (epoch : Epoch) (snapshot : MemberSet) (results : Vector MemberResult 8),
    (ResultArea.commit seq epoch snapshot results settle).bytes =
      toLE 4 seq.toNat ++ toLE 2 epoch.toNat ++ [snapshot, 0] ++
        (allLinks.map fun m =>
          match results[m.val] with
          | .none => (0x00 : Byte) | .pending => 0x01 | .acked => 0x02 | .fenced => 0x03 | .lost => 0x04 | .full => 0x05
          | .staleEpoch => 0x06 | .linkDown => 0x07 | .deadline => 0x08 | .poison => 0x09) ++
        toLE 4 settle.toNat ++ List.replicate 28 0) ∧
  ResultArea.zero.bytes = List.replicate 48 0 ∧
  (∀ epoch : Epoch, (ResultArea.groupSet epoch).bytes = toLE 2 epoch.toNat ++ List.replicate 46 0) ∧
  (∀ (groups : GroupSet) (w : Nat) (deciding : Option GroupId) (values : List Seq),
    let entries := (values.take 11).flatMap fun v => toLE 4 v.toNat
    (ResultArea.readmit groups w deciding values).bytes =
      toLE 2 groups.toNat ++ [BitVec.ofNat 8 w, match deciding with | none => 0xFF | some g => BitVec.ofNat 8 g.val] ++
        entries ++ List.replicate (44 - entries.length) 0) ∧
  (∀ (targets : GroupSet) (marks : List Seq),
    let entries := (marks.take 11).flatMap fun v => toLE 4 v.toNat
    (ResultArea.barrier targets marks).bytes =
      toLE 2 targets.toNat ++ [0, 0] ++ entries ++ List.replicate (44 - entries.length) 0) ∧
  (∀ reply : List Byte, reply.length ≤ 32 →
    (ResultArea.note reply).bytes =
      [BitVec.ofNat 8 reply.length, 0, 0, 0] ++ reply ++ List.replicate (44 - reply.length) 0) ∧
  [OrderOutcome.ok, .partialOk, .quorumLost, .deadline, .noQuorum, .seqExhausted, .hostReadFault, .storeFault,
    .storeShort, .badKind, .badField, .groupUndefined, .noSetup, .groupBusy, .linkBusy, .linkNotUp, .memberBusy,
    .notFenced, .noReply, .memberBehind, .memberAhead, .memberRefused].map OrderOutcome.code =
    [0x00, 0x01, 0x02, 0x03, 0x04, 0x05, 0x10, 0x11, 0x12, 0x20, 0x21, 0x22, 0x23, 0x30, 0x31, 0x32, 0x33, 0x34, 0x40,
      0x41, 0x42, 0x43] ∧
  (∀ rec : Record,
    let p (offset : Nat) : Byte := rec.params.getD (offset - 0x10) 0
    let le (offset n : Nat) : Nat := ofLE ((rec.params.drop (offset - 0x10)).take n)
    let link : Option LinkId := if h : (p 0x10).toNat < 8 then some ⟨(p 0x10).toNat, h⟩ else none
    let group : Option GroupId := if h : (p 0x10).toNat < 16 then some ⟨(p 0x10).toNat, h⟩ else none
    rec.setupFields =
      { coordinatorTag := BitVec.ofNat 16 (le 0x10 2), probeInterval := le 0x12 2, mirrorInterval := le 0x14 2
        mirrorBase := BitVec.ofNat 64 (le 0x18 8) } ∧
    rec.groupSetFields =
      { group := p 0x10, members := p 0x11, quorum := (p 0x12).toNat, retryLimit := (p 0x13).toNat, mode := p 0x14
        ackDeadline := le 0x16 2, orderDeadline := le 0x18 2, initialNext := BitVec.ofNat 32 (le 0x1C 4) } ∧
    rec.link? = link ∧ rec.bindTag = BitVec.ofNat 16 (le 0x12 2) ∧ rec.group? = group ∧
    rec.payloadLength = le 0x12 2 ∧ rec.payloadAddr = BitVec.ofNat 64 (le 0x18 8) ∧
    rec.targetOffset = BitVec.ofNat 64 (le 0x20 8) ∧ rec.waitAll = rec.flags.getLsbD 0 ∧
    rec.barrierTarget = if p 0x10 = 0xFF then some .all else group.map .group) ∧
  (∀ bytes : List Byte,
    let r := Record.ofBytes bytes
    r.state = bytes.getD 0 0 ∧ r.kind = bytes.getD 1 0 ∧ r.flags = bytes.getD 2 0 ∧
    r.tag = BitVec.ofNat 32 (ofLE ((bytes.drop 4).take 4)) ∧ r.params = (bytes.drop 0x10).take 64) ∧
  (∀ f : Frame,
    let covered :=
      [(f.kind ++ f.flags : Byte), f.group] ++ toBE 2 f.senderTag.toNat ++ toBE 2 f.epoch.toNat ++
        toBE 2 f.body.length ++ toBE 4 f.sequence.toNat ++ toBE 4 f.param.toNat ++ f.body
    f.bytes = covered ++ toBE 4 (crc32 covered).toNat) ∧
  (∀ e : OfferEntry,
    e.bytes = [BitVec.ofNat 8 e.group.val, 0] ++ toBE 2 e.epoch.toNat ++ toBE 4 e.next.toNat) ∧
  (∀ (g x y z a b c d : Byte) (rest : List Byte),
    replyEntries (g :: x :: y :: z :: a :: b :: c :: d :: rest) =
      (g, (a ++ b ++ c ++ d : BitVec 32)) :: replyEntries rest) ∧
  (∀ body : List Byte, body.length < 8 → replyEntries body = []) ∧
  [none, some FenceCause.lost, some .full, some .staleEpoch, some .linkDown, some .deadline, some .poison,
    some .epochLost, some .admin, some .reset].map causeCode = [0, 4, 5, 6, 7, 8, 9, 10, 11, 12] ∧
  (∀ (reg : BitVec 32) (b : Byte) (bytes : List Byte),
    let enter (r : BitVec 32) (bit : Bool) : BitVec 32 :=
      if r.msb != bit then (r <<< 1) ^^^ 0x04C11DB7 else r <<< 1
    crcByte reg b = [0, 1, 2, 3, 4, 5, 6, 7].foldl (fun r i => enter r (b.getLsbD i)) reg ∧
    crc32 bytes = ~~~(bytes.foldl crcByte 0xFFFFFFFF).reverse) ∧
  crc32 [0x31, 0x32, 0x33, 0x34, 0x35, 0x36, 0x37, 0x38, 0x39] = 0xCBF43926

/-! ### Invariants of every step -/

/-- Every step keeps the payload store's bytes in canonical form (R48, R54, R62). That form, addresses rising and no
byte 0 listed, is the model's way to hold the bytes (log 8). -/
def Obligations.StoreStaysCanonical : Prop :=
  ∀ s t : State, s.storeSound → step s = .next t → t.storeSound

/-- Every step keeps every defined group's parameters in R3's ranges, its quorum no larger than its defined members
are many, its state the one its effective set derives, and its epoch other than 0; and, while every offer that a step
may end accepted names only groups of its member, every effective set within the defined members (R1 to R3, R6, R9,
R10). -/
def Obligations.GroupsStaySound : Prop :=
  (∀ s t : State, s.groupsSound → step s = .next t → t.groupsSound) ∧
  (∀ s t : State, s.offersSound → s.effectiveSound → step s = .next t → t.effectiveSound)

/-- Every step keeps the block of a mirror in state ON below 2^48, Pending Posts at or below 65,535, and the clean
streaks below 8, at 0 for a member that is not SUSPECT (R70, R81, R82, R142, R144, R162). -/
def Obligations.MirrorPostsAndStreaksStayInRange : Prop :=
  (∀ s t : State, s.mirrorSound → step s = .next t → t.mirrorSound) ∧
  (∀ s t : State, s.postsSound → step s = .next t → t.postsSound) ∧
  (∀ s t : State, s.streaksSound → step s = .next t → t.streaksSound)

/-- The state after a power-on reset has the seven invariants. -/
def Obligations.ResetIsSound : Prop :=
  State.reset.storeSound ∧ State.reset.groupsSound ∧ State.reset.effectiveSound ∧ State.reset.offersSound ∧
    State.reset.mirrorSound ∧ State.reset.postsSound ∧ State.reset.streaksSound
end

