-- ==== Sys2Proof/Laws/State.lean ====
section
/-! SUPPORT. One lemma per field per update of the state: what each update writes and what it leaves. -/

namespace Sys2Proof.Machine

/-- `setLink` writes `links` alone. -/
@[simp] theorem State.setLink_writes (s : State) (m : LinkId) (l : LinkEngine) :
    (s.setLink m l).links = s.links.set m.val l := rfl

/-- `setLink` leaves every other field. -/
@[simp] theorem State.setLink_leaves (s : State) (m : LinkId) (l : LinkEngine) :
    (s.setLink m l).pending = s.pending ∧ (s.setLink m l).inFlight = s.inFlight
      ∧ (s.setLink m l).now = s.now ∧ (s.setLink m l).port = s.port
      ∧ (s.setLink m l).chain = s.chain ∧ (s.setLink m l).window = s.window
      ∧ (s.setLink m l).store = s.store ∧ (s.setLink m l).groups = s.groups
      ∧ (s.setLink m l).members = s.members ∧ (s.setLink m l).notices = s.notices :=
  ⟨rfl, rfl, rfl, rfl, rfl, rfl, rfl, rfl, rfl, rfl⟩

/-- `modLink` writes `links` alone. -/
@[simp] theorem State.modLink_writes (s : State) (m : LinkId) (f : LinkEngine → LinkEngine) :
    (s.modLink m f).links = s.links.set m.val (f (s.link m)) := rfl

/-- `modLink` leaves every other field. -/
@[simp] theorem State.modLink_leaves (s : State) (m : LinkId) (f : LinkEngine → LinkEngine) :
    (s.modLink m f).pending = s.pending ∧ (s.modLink m f).inFlight = s.inFlight
      ∧ (s.modLink m f).now = s.now ∧ (s.modLink m f).port = s.port
      ∧ (s.modLink m f).chain = s.chain ∧ (s.modLink m f).window = s.window
      ∧ (s.modLink m f).store = s.store ∧ (s.modLink m f).groups = s.groups
      ∧ (s.modLink m f).members = s.members ∧ (s.modLink m f).notices = s.notices :=
  ⟨rfl, rfl, rfl, rfl, rfl, rfl, rfl, rfl, rfl, rfl⟩

/-- `setMember` writes `members` alone. -/
@[simp] theorem State.setMember_writes (s : State) (m : LinkId) (r : Member) :
    (s.setMember m r).members = s.members.set m.val r := rfl

/-- `setMember` leaves every other field. -/
@[simp] theorem State.setMember_leaves (s : State) (m : LinkId) (r : Member) :
    (s.setMember m r).pending = s.pending ∧ (s.setMember m r).inFlight = s.inFlight
      ∧ (s.setMember m r).now = s.now ∧ (s.setMember m r).port = s.port
      ∧ (s.setMember m r).chain = s.chain ∧ (s.setMember m r).window = s.window
      ∧ (s.setMember m r).store = s.store ∧ (s.setMember m r).groups = s.groups
      ∧ (s.setMember m r).links = s.links ∧ (s.setMember m r).notices = s.notices :=
  ⟨rfl, rfl, rfl, rfl, rfl, rfl, rfl, rfl, rfl, rfl⟩

/-- `modMember` writes `members` alone. -/
@[simp] theorem State.modMember_writes (s : State) (m : LinkId) (f : Member → Member) :
    (s.modMember m f).members = s.members.set m.val (f (s.member m)) := rfl

/-- `modMember` leaves every other field. -/
@[simp] theorem State.modMember_leaves (s : State) (m : LinkId) (f : Member → Member) :
    (s.modMember m f).pending = s.pending ∧ (s.modMember m f).inFlight = s.inFlight
      ∧ (s.modMember m f).now = s.now ∧ (s.modMember m f).port = s.port
      ∧ (s.modMember m f).chain = s.chain ∧ (s.modMember m f).window = s.window
      ∧ (s.modMember m f).store = s.store ∧ (s.modMember m f).groups = s.groups
      ∧ (s.modMember m f).links = s.links ∧ (s.modMember m f).notices = s.notices :=
  ⟨rfl, rfl, rfl, rfl, rfl, rfl, rfl, rfl, rfl, rfl⟩

/-- `setSlot` writes `window` alone. -/
@[simp] theorem State.setSlot_writes (s : State) (i : SlotId) (t : Option Slot) :
    (s.setSlot i t).window = s.window.set i.val t := rfl

/-- `setSlot` leaves every other field. -/
@[simp] theorem State.setSlot_leaves (s : State) (i : SlotId) (t : Option Slot) :
    (s.setSlot i t).pending = s.pending ∧ (s.setSlot i t).inFlight = s.inFlight
      ∧ (s.setSlot i t).now = s.now ∧ (s.setSlot i t).port = s.port
      ∧ (s.setSlot i t).chain = s.chain ∧ (s.setSlot i t).store = s.store
      ∧ (s.setSlot i t).groups = s.groups ∧ (s.setSlot i t).members = s.members
      ∧ (s.setSlot i t).links = s.links ∧ (s.setSlot i t).notices = s.notices :=
  ⟨rfl, rfl, rfl, rfl, rfl, rfl, rfl, rfl, rfl, rfl⟩

/-- `modSlot` writes `window` alone. -/
@[simp] theorem State.modSlot_writes (s : State) (i : SlotId) (f : Slot → Slot) :
    (s.modSlot i f).window = s.window.set i.val ((s.slot i).map f) := rfl

/-- `modSlot` leaves every other field. -/
@[simp] theorem State.modSlot_leaves (s : State) (i : SlotId) (f : Slot → Slot) :
    (s.modSlot i f).pending = s.pending ∧ (s.modSlot i f).inFlight = s.inFlight
      ∧ (s.modSlot i f).now = s.now ∧ (s.modSlot i f).port = s.port
      ∧ (s.modSlot i f).chain = s.chain ∧ (s.modSlot i f).store = s.store
      ∧ (s.modSlot i f).groups = s.groups ∧ (s.modSlot i f).members = s.members
      ∧ (s.modSlot i f).links = s.links ∧ (s.modSlot i f).notices = s.notices :=
  ⟨rfl, rfl, rfl, rfl, rfl, rfl, rfl, rfl, rfl, rfl⟩

/-- `markGroup` writes the dirty flag alone. -/
@[simp] theorem NoticeUnit.markGroup_dirty (u : NoticeUnit) (before after : Option GroupRecord) :
    (u.markGroup before after).dirty = (u.dirty || before.map GroupRecord.status != after.map GroupRecord.status) := rfl

/-- `markGroup` leaves every other field. -/
@[simp] theorem NoticeUnit.markGroup_leaves (u : NoticeUnit) (before after : Option GroupRecord) :
    (u.markGroup before after).raw = u.raw ∧ (u.markGroup before after).mask = u.mask
      ∧ (u.markGroup before after).doneTally = u.doneTally ∧ (u.markGroup before after).mirrorState = u.mirrorState
      ∧ (u.markGroup before after).mirrorBase = u.mirrorBase
      ∧ (u.markGroup before after).mirrorInterval = u.mirrorInterval
      ∧ (u.markGroup before after).generation = u.generation
      ∧ (u.markGroup before after).writeInFlight = u.writeInFlight
      ∧ (u.markGroup before after).intervalTimer = u.intervalTimer
      ∧ (u.markGroup before after).coordinatorTag = u.coordinatorTag
      ∧ (u.markGroup before after).probeInterval = u.probeInterval :=
  ⟨rfl, rfl, rfl, rfl, rfl, rfl, rfl, rfl, rfl, rfl, rfl⟩

/-- A mark that is there already stays (R161). -/
theorem NoticeUnit.markGroup_of_dirty (u : NoticeUnit) (before after : Option GroupRecord) (h : u.dirty = true) :
    u.markGroup before after = u := by
  cases u
  simp_all [NoticeUnit.markGroup]

/-- `setGroup` writes `groups`, and marks the mirror dirty on a change of a mirrored field (R15). -/
@[simp] theorem State.setGroup_writes (s : State) (g : GroupId) (r : Option GroupRecord) :
    (s.setGroup g r).groups = s.groups.set g.val r
      ∧ (s.setGroup g r).notices = s.notices.markGroup (s.group g) r :=
  ⟨rfl, rfl⟩

/-- `setGroup` leaves every other field. -/
@[simp] theorem State.setGroup_leaves (s : State) (g : GroupId) (r : Option GroupRecord) :
    (s.setGroup g r).pending = s.pending ∧ (s.setGroup g r).inFlight = s.inFlight
      ∧ (s.setGroup g r).now = s.now ∧ (s.setGroup g r).port = s.port
      ∧ (s.setGroup g r).chain = s.chain ∧ (s.setGroup g r).window = s.window
      ∧ (s.setGroup g r).store = s.store ∧ (s.setGroup g r).members = s.members
      ∧ (s.setGroup g r).links = s.links :=
  ⟨rfl, rfl, rfl, rfl, rfl, rfl, rfl, rfl, rfl⟩

/-- `modGroup` writes `groups`, and marks the mirror dirty on a change of a mirrored field (R15). -/
@[simp] theorem State.modGroup_writes (s : State) (g : GroupId) (f : GroupRecord → GroupRecord) :
    (s.modGroup g f).groups = s.groups.set g.val ((s.group g).map f)
      ∧ (s.modGroup g f).notices = s.notices.markGroup (s.group g) ((s.group g).map f) :=
  ⟨rfl, rfl⟩

/-- `modGroup` leaves every other field. -/
@[simp] theorem State.modGroup_leaves (s : State) (g : GroupId) (f : GroupRecord → GroupRecord) :
    (s.modGroup g f).pending = s.pending ∧ (s.modGroup g f).inFlight = s.inFlight
      ∧ (s.modGroup g f).now = s.now ∧ (s.modGroup g f).port = s.port
      ∧ (s.modGroup g f).chain = s.chain ∧ (s.modGroup g f).window = s.window
      ∧ (s.modGroup g f).store = s.store ∧ (s.modGroup g f).members = s.members
      ∧ (s.modGroup g f).links = s.links :=
  ⟨rfl, rfl, rfl, rfl, rfl, rfl, rfl, rfl, rfl⟩

/-- `modChain` writes `chain` alone. -/
@[simp] theorem State.modChain_writes (s : State) (f : ChainReader → ChainReader) :
    (s.modChain f).chain = f s.chain := rfl

/-- `modChain` leaves every other field. -/
@[simp] theorem State.modChain_leaves (s : State) (f : ChainReader → ChainReader) :
    (s.modChain f).pending = s.pending ∧ (s.modChain f).inFlight = s.inFlight
      ∧ (s.modChain f).now = s.now ∧ (s.modChain f).port = s.port
      ∧ (s.modChain f).window = s.window ∧ (s.modChain f).store = s.store
      ∧ (s.modChain f).groups = s.groups ∧ (s.modChain f).members = s.members
      ∧ (s.modChain f).links = s.links ∧ (s.modChain f).notices = s.notices :=
  ⟨rfl, rfl, rfl, rfl, rfl, rfl, rfl, rfl, rfl, rfl⟩

/-- `modStore` writes `store` alone. -/
@[simp] theorem State.modStore_writes (s : State) (f : PayloadStore → PayloadStore) :
    (s.modStore f).store = f s.store := rfl

/-- `modStore` leaves every other field. -/
@[simp] theorem State.modStore_leaves (s : State) (f : PayloadStore → PayloadStore) :
    (s.modStore f).pending = s.pending ∧ (s.modStore f).inFlight = s.inFlight
      ∧ (s.modStore f).now = s.now ∧ (s.modStore f).port = s.port
      ∧ (s.modStore f).chain = s.chain ∧ (s.modStore f).window = s.window
      ∧ (s.modStore f).groups = s.groups ∧ (s.modStore f).members = s.members
      ∧ (s.modStore f).links = s.links ∧ (s.modStore f).notices = s.notices :=
  ⟨rfl, rfl, rfl, rfl, rfl, rfl, rfl, rfl, rfl, rfl⟩

/-- `modNotices` writes `notices` alone. -/
@[simp] theorem State.modNotices_writes (s : State) (f : NoticeUnit → NoticeUnit) :
    (s.modNotices f).notices = f s.notices := rfl

/-- `modNotices` leaves every other field. -/
@[simp] theorem State.modNotices_leaves (s : State) (f : NoticeUnit → NoticeUnit) :
    (s.modNotices f).pending = s.pending ∧ (s.modNotices f).inFlight = s.inFlight
      ∧ (s.modNotices f).now = s.now ∧ (s.modNotices f).port = s.port
      ∧ (s.modNotices f).chain = s.chain ∧ (s.modNotices f).window = s.window
      ∧ (s.modNotices f).store = s.store ∧ (s.modNotices f).groups = s.groups
      ∧ (s.modNotices f).members = s.members ∧ (s.modNotices f).links = s.links :=
  ⟨rfl, rfl, rfl, rfl, rfl, rfl, rfl, rfl, rfl, rfl⟩

/-- `modPort` writes `port` alone. -/
@[simp] theorem State.modPort_writes (s : State) (f : SystemPort → SystemPort) :
    (s.modPort f).port = f s.port := rfl

/-- `modPort` leaves every other field. -/
@[simp] theorem State.modPort_leaves (s : State) (f : SystemPort → SystemPort) :
    (s.modPort f).pending = s.pending ∧ (s.modPort f).inFlight = s.inFlight
      ∧ (s.modPort f).now = s.now ∧ (s.modPort f).chain = s.chain
      ∧ (s.modPort f).window = s.window ∧ (s.modPort f).store = s.store
      ∧ (s.modPort f).groups = s.groups ∧ (s.modPort f).members = s.members
      ∧ (s.modPort f).links = s.links ∧ (s.modPort f).notices = s.notices :=
  ⟨rfl, rfl, rfl, rfl, rfl, rfl, rfl, rfl, rfl, rfl⟩

/-- `send` writes `inFlight` alone. -/
@[simp] theorem State.send_writes (s : State) (c : Instr) :
    (s.send c).inFlight = s.inFlight ++ [c] := rfl

/-- `send` leaves every other field. -/
@[simp] theorem State.send_leaves (s : State) (c : Instr) :
    (s.send c).pending = s.pending ∧ (s.send c).now = s.now
      ∧ (s.send c).port = s.port ∧ (s.send c).chain = s.chain
      ∧ (s.send c).window = s.window ∧ (s.send c).store = s.store
      ∧ (s.send c).groups = s.groups ∧ (s.send c).members = s.members
      ∧ (s.send c).links = s.links ∧ (s.send c).notices = s.notices :=
  ⟨rfl, rfl, rfl, rfl, rfl, rfl, rfl, rfl, rfl, rfl⟩

/-- `taken` writes `inFlight` alone. -/
@[simp] theorem State.taken_writes (s : State) (c : Instr) :
    (s.taken c).inFlight = s.inFlight.erase c := rfl

/-- `taken` leaves every other field. -/
@[simp] theorem State.taken_leaves (s : State) (c : Instr) :
    (s.taken c).pending = s.pending ∧ (s.taken c).now = s.now
      ∧ (s.taken c).port = s.port ∧ (s.taken c).chain = s.chain
      ∧ (s.taken c).window = s.window ∧ (s.taken c).store = s.store
      ∧ (s.taken c).groups = s.groups ∧ (s.taken c).members = s.members
      ∧ (s.taken c).links = s.links ∧ (s.taken c).notices = s.notices :=
  ⟨rfl, rfl, rfl, rfl, rfl, rfl, rfl, rfl, rfl, rfl⟩

/-- The interrupt changes the latch and the count of messages alone. -/
theorem State.reconsider_eq (s : State) : s.reconsider =
    { s with port := { s.port with latch := s.reconsider.port.latch, interruptsSent := s.reconsider.port.interruptsSent } } := by
  simp only [State.reconsider]
  split <;> rfl

/-- The same of a reconsidering event of OFF and BROKEN. -/
theorem State.reconsiderUnlessOn_eq (s : State) : s.reconsiderUnlessOn =
    { s with port := { s.port with latch := s.reconsiderUnlessOn.port.latch
                                   interruptsSent := s.reconsiderUnlessOn.port.interruptsSent } } := by
  simp only [State.reconsiderUnlessOn]
  split
  · rfl
  · exact s.reconsider_eq

/-- A notice raised changes the notice unit, the latch and the count of messages alone. -/
theorem State.raise_eq (s : State) (n : Notice) : s.raise n =
    { s with notices := s.notices.raise n
             port := { s.port with latch := (s.raise n).port.latch, interruptsSent := (s.raise n).port.interruptsSent } } := by
  simp only [State.raise]
  split
  · rfl
  · rw [State.reconsiderUnlessOn_eq]; rfl

/-- `raise` writes `notices`, and of the port the latch and the count of messages alone. -/
@[simp] theorem State.raise_writes (s : State) (n : Notice) :
    (s.raise n).notices = s.notices.raise n ∧ (s.raise n).port.originLo = s.port.originLo
      ∧ (s.raise n).port.originHi = s.port.originHi ∧ (s.raise n).port.run = s.port.run
      ∧ (s.raise n).port.waitReport = s.port.waitReport ∧ (s.raise n).port.waitMirror = s.port.waitMirror
      ∧ (s.raise n).port.waitWalk = s.port.waitWalk ∧ (s.raise n).port.waitPayload = s.port.waitPayload
      ∧ (s.raise n).port.current = s.port.current := by
  rw [State.raise_eq]
  exact ⟨rfl, rfl, rfl, rfl, rfl, rfl, rfl, rfl, rfl⟩

/-- `raise` leaves every other field. -/
@[simp] theorem State.raise_leaves (s : State) (n : Notice) :
    (s.raise n).pending = s.pending ∧ (s.raise n).inFlight = s.inFlight
      ∧ (s.raise n).now = s.now ∧ (s.raise n).chain = s.chain ∧ (s.raise n).window = s.window
      ∧ (s.raise n).store = s.store ∧ (s.raise n).groups = s.groups
      ∧ (s.raise n).members = s.members ∧ (s.raise n).links = s.links := by
  rw [State.raise_eq]
  exact ⟨rfl, rfl, rfl, rfl, rfl, rfl, rfl, rfl, rfl⟩

/-- `reachTime` writes `now` alone. -/
@[simp] theorem State.reachTime_writes (s : State) (t : Nat) :
    (s.reachTime t).now = max s.now t := rfl

/-- `reachTime` leaves every other field. -/
@[simp] theorem State.reachTime_leaves (s : State) (t : Nat) :
    (s.reachTime t).pending = s.pending ∧ (s.reachTime t).inFlight = s.inFlight
      ∧ (s.reachTime t).port = s.port ∧ (s.reachTime t).chain = s.chain
      ∧ (s.reachTime t).window = s.window ∧ (s.reachTime t).store = s.store
      ∧ (s.reachTime t).groups = s.groups ∧ (s.reachTime t).members = s.members
      ∧ (s.reachTime t).links = s.links ∧ (s.reachTime t).notices = s.notices :=
  ⟨rfl, rfl, rfl, rfl, rfl, rfl, rfl, rfl, rfl, rfl⟩

/-- `ask` writes `port` alone. -/
@[simp] theorem State.ask_writes (s : State) (r : MemRequest) :
    (s.ask r).port = s.port.setWaiting r.kind.cls (some r) := rfl

/-- `ask` leaves every other field. -/
@[simp] theorem State.ask_leaves (s : State) (r : MemRequest) :
    (s.ask r).pending = s.pending ∧ (s.ask r).inFlight = s.inFlight
      ∧ (s.ask r).now = s.now ∧ (s.ask r).chain = s.chain
      ∧ (s.ask r).window = s.window ∧ (s.ask r).store = s.store
      ∧ (s.ask r).groups = s.groups ∧ (s.ask r).members = s.members
      ∧ (s.ask r).links = s.links ∧ (s.ask r).notices = s.notices :=
  ⟨rfl, rfl, rfl, rfl, rfl, rfl, rfl, rfl, rfl, rfl⟩

/-- `markDirty` leaves every field but the notice unit. -/
@[simp] theorem State.markDirty_leaves (s : State) :
    s.markDirty.pending = s.pending ∧ s.markDirty.inFlight = s.inFlight ∧ s.markDirty.now = s.now
      ∧ s.markDirty.port = s.port ∧ s.markDirty.chain = s.chain ∧ s.markDirty.window = s.window
      ∧ s.markDirty.store = s.store ∧ s.markDirty.groups = s.groups ∧ s.markDirty.members = s.members
      ∧ s.markDirty.links = s.links :=
  ⟨rfl, rfl, rfl, rfl, rfl, rfl, rfl, rfl, rfl, rfl⟩

/-- `markDirty` sets the dirty flag. -/
@[simp] theorem State.markDirty_notices (s : State) : s.markDirty.notices = { s.notices with dirty := true } := rfl

/-! ### What the small operations of one block leave -/

/-- A notice raised leaves every other field of the notice unit but the dirty flag. -/
@[simp] theorem NoticeUnit.raise_leaves (u : NoticeUnit) (n : Notice) :
    (u.raise n).mask = u.mask ∧ (u.raise n).doneTally = u.doneTally ∧ (u.raise n).mirrorState = u.mirrorState
      ∧ (u.raise n).mirrorBase = u.mirrorBase ∧ (u.raise n).mirrorInterval = u.mirrorInterval
      ∧ (u.raise n).generation = u.generation ∧ (u.raise n).writeInFlight = u.writeInFlight
      ∧ (u.raise n).intervalTimer = u.intervalTimer ∧ (u.raise n).coordinatorTag = u.coordinatorTag
      ∧ (u.raise n).probeInterval = u.probeInterval :=
  ⟨rfl, rfl, rfl, rfl, rfl, rfl, rfl, rfl, rfl, rfl⟩

/-- `freeResource` writes `port` alone. -/
@[simp] theorem State.freeResource_writes (s : State) : s.freeResource.port = { s.port with current := none } := rfl

/-- `freeResource` leaves every other field. -/
@[simp] theorem State.freeResource_leaves (s : State) :
    s.freeResource.pending = s.pending ∧ s.freeResource.inFlight = s.inFlight ∧ s.freeResource.now = s.now
      ∧ s.freeResource.chain = s.chain ∧ s.freeResource.window = s.window ∧ s.freeResource.store = s.store
      ∧ s.freeResource.groups = s.groups ∧ s.freeResource.members = s.members ∧ s.freeResource.links = s.links
      ∧ s.freeResource.notices = s.notices :=
  ⟨rfl, rfl, rfl, rfl, rfl, rfl, rfl, rfl, rfl, rfl⟩

/-- Stopping the walk leaves the count of posts, the walk pointer and the report queue. -/
@[simp] theorem ChainReader.stopWalk_leaves (c : ChainReader) :
    c.stopWalk.pendingPosts = c.pendingPosts ∧ c.stopWalk.walkPointer = c.walkPointer ∧ c.stopWalk.anchor = c.anchor
      ∧ c.stopWalk.reports = c.reports ∧ c.stopWalk.unreported = c.unreported ∧ c.stopWalk.state = c.state :=
  ⟨rfl, rfl, rfl, rfl, rfl, rfl⟩

/-- Giving a place back leaves the count of posts, the walk pointer and the report queue. -/
@[simp] theorem ChainReader.freePlace_leaves (c : ChainReader) :
    c.freePlace.pendingPosts = c.pendingPosts ∧ c.freePlace.walkPointer = c.walkPointer
      ∧ c.freePlace.anchor = c.anchor ∧ c.freePlace.reports = c.reports ∧ c.freePlace.unreported = c.unreported
      ∧ c.freePlace.state = c.state :=
  ⟨rfl, rfl, rfl, rfl, rfl, rfl⟩

/-- A release of blocks leaves the bytes, the quarantine list and the loader. -/
@[simp] theorem PayloadStore.releaseBlocks_leaves (p : PayloadStore) (bs : List BlockId) :
    (p.releaseBlocks bs).cells = p.cells ∧ (p.releaseBlocks bs).badWords = p.badWords
      ∧ (p.releaseBlocks bs).quarantine = p.quarantine ∧ (p.releaseBlocks bs).loaderQueue = p.loaderQueue
      ∧ (p.releaseBlocks bs).load = p.load :=
  ⟨rfl, rfl, rfl, rfl, rfl⟩

/-- A soft reset leaves the bytes (R62). -/
@[simp] theorem PayloadStore.softReset_leaves (p : PayloadStore) :
    p.softReset.cells = p.cells ∧ p.softReset.badWords = p.badWords :=
  ⟨rfl, rfl⟩

/-- Holding a BARRIER leaves the count of posts, the walk pointer and the report queue (R92). -/
@[simp] theorem ChainReader.holdBarrier_leaves (c : ChainReader) (b : HeldBarrier) :
    (c.holdBarrier b).pendingPosts = c.pendingPosts ∧ (c.holdBarrier b).walkPointer = c.walkPointer
      ∧ (c.holdBarrier b).reports = c.reports :=
  ⟨rfl, rfl, rfl⟩

/-- HALT leaves the count of posts, the walk pointer and First Unreported (R102). -/
@[simp] theorem ChainReader.halt_leaves (c : ChainReader) :
    c.halt.pendingPosts = c.pendingPosts ∧ c.halt.walkPointer = c.walkPointer ∧ c.halt.unreported = c.unreported :=
  ⟨rfl, rfl, rfl⟩

/-- Upsets leave the bytes and the lists. -/
@[simp] theorem PayloadStore.upset_leaves (p : PayloadStore) (words upsets : List Nat) :
    (p.upset words upsets).cells = p.cells ∧ (p.upset words upsets).free = p.free
      ∧ (p.upset words upsets).quarantine = p.quarantine ∧ (p.upset words upsets).loaderQueue = p.loaderQueue
      ∧ (p.upset words upsets).load = p.load :=
  ⟨rfl, rfl, rfl, rfl, rfl⟩

/-! ### What a register reads after a write -/

/-- A link read after a write of it or of another. -/
theorem State.link_setLink (s : State) (i k : LinkId) (v : LinkEngine) :
    (s.setLink i v).link k = if k = i then v else s.link k := by
  simp only [State.link, State.setLink, Vector.getElem_set, Fin.ext_iff, eq_comm]

/-- A link read after a write of it. -/
@[simp] theorem State.link_setLink_same (s : State) (i : LinkId) (v : LinkEngine) : (s.setLink i v).link i = v := by
  simp [State.link_setLink]

/-- Two states with the same array read the same link. -/
theorem State.link_congr {s t : State} (h : t.links = s.links) (i : LinkId) : t.link i = s.link i := by
  simp only [State.link, h]

/-- A member read after a write of it or of another. -/
theorem State.member_setMember (s : State) (i k : LinkId) (v : Member) :
    (s.setMember i v).member k = if k = i then v else s.member k := by
  simp only [State.member, State.setMember, Vector.getElem_set, Fin.ext_iff, eq_comm]

/-- A member read after a write of it. -/
@[simp] theorem State.member_setMember_same (s : State) (i : LinkId) (v : Member) : (s.setMember i v).member i = v := by
  simp [State.member_setMember]

/-- Two states with the same array read the same member. -/
theorem State.member_congr {s t : State} (h : t.members = s.members) (i : LinkId) : t.member i = s.member i := by
  simp only [State.member, h]

/-- A slot read after a write of it or of another. -/
theorem State.slot_setSlot (s : State) (i k : SlotId) (v : Option Slot) :
    (s.setSlot i v).slot k = if k = i then v else s.slot k := by
  simp only [State.slot, State.setSlot, Vector.getElem_set, Fin.ext_iff, eq_comm]

/-- A slot read after a write of it. -/
@[simp] theorem State.slot_setSlot_same (s : State) (i : SlotId) (v : Option Slot) : (s.setSlot i v).slot i = v := by
  simp [State.slot_setSlot]

/-- Two states with the same array read the same slot. -/
theorem State.slot_congr {s t : State} (h : t.window = s.window) (i : SlotId) : t.slot i = s.slot i := by
  simp only [State.slot, h]

/-- A group read after a write of it or of another. -/
theorem State.group_setGroup (s : State) (i k : GroupId) (v : Option GroupRecord) :
    (s.setGroup i v).group k = if k = i then v else s.group k := by
  simp only [State.group, State.setGroup, Vector.getElem_set, Fin.ext_iff, eq_comm]

/-- A group read after a write of it. -/
@[simp] theorem State.group_setGroup_same (s : State) (i : GroupId) (v : Option GroupRecord) : (s.setGroup i v).group i = v := by
  simp [State.group_setGroup]

/-- Two states with the same array read the same group. -/
theorem State.group_congr {s t : State} (h : t.groups = s.groups) (i : GroupId) : t.group i = s.group i := by
  simp only [State.group, h]

/-- What `reconsider` leaves unchanged. -/
@[simp] theorem State.reconsider_frame (s : State) :
    s.reconsider.pending = s.pending ∧ s.reconsider.now = s.now ∧ s.reconsider.window = s.window
      ∧ s.reconsider.store = s.store ∧ s.reconsider.groups = s.groups ∧ s.reconsider.members = s.members
      ∧ s.reconsider.links = s.links ∧ s.reconsider.inFlight = s.inFlight ∧ s.reconsider.chain = s.chain
      ∧ s.reconsider.notices = s.notices := by
  simp only [State.reconsider]
  (repeat' split) <;> simp

/-- What `reconsiderUnlessOn` leaves unchanged. -/
@[simp] theorem State.reconsiderUnlessOn_frame (s : State) :
    s.reconsiderUnlessOn.pending = s.pending ∧ s.reconsiderUnlessOn.now = s.now
      ∧ s.reconsiderUnlessOn.window = s.window ∧ s.reconsiderUnlessOn.store = s.store
      ∧ s.reconsiderUnlessOn.groups = s.groups ∧ s.reconsiderUnlessOn.members = s.members
      ∧ s.reconsiderUnlessOn.links = s.links ∧ s.reconsiderUnlessOn.inFlight = s.inFlight
      ∧ s.reconsiderUnlessOn.chain = s.chain ∧ s.reconsiderUnlessOn.notices = s.notices := by
  simp only [State.reconsiderUnlessOn]
  (repeat' split) <;> simp

end Sys2Proof.Machine
end

