-- ==== Sys2Proof/Laws/FramesChain.lean ====
section
/-! SUPPORT. What each operation of the reporter and the walk leaves unchanged. -/

namespace Sys2Proof.Machine

/-- A fold keeps what each of its steps keeps. -/
theorem foldl_keeps {σ α β : Type} (π : σ → β) (f : σ → α → σ) (h : ∀ s a, π (f s a) = π s) (l : List α) (s : σ) :
    π (l.foldl f s) = π s := by
  induction l generalizing s with
  | nil => rfl
  | cons a l ih => rw [List.foldl_cons, ih, h]

/-- Doing something for each link keeps what it keeps for one. -/
theorem forLinks_keeps {β : Type} (π : State → β) (f : LinkId → State → State) (h : ∀ m s, π (f m s) = π s)
    (s : State) : π (forLinks f s) = π s := foldl_keeps π _ (fun s m => h m s) _ s

/-- Doing something for each slot keeps what it keeps for one. -/
theorem forSlots_keeps {β : Type} (π : State → β) (f : SlotId → State → State) (h : ∀ i s, π (f i s) = π s)
    (s : State) : π (forSlots f s) = π s := foldl_keeps π _ (fun s i => h i s) _ s

/-- Doing something for each group keeps what it keeps for one. -/
theorem forGroups_keeps {β : Type} (π : State → β) (f : GroupId → State → State) (h : ∀ g s, π (f g s) = π s)
    (s : State) : π (forGroups f s) = π s := foldl_keeps π _ (fun s g => h g s) _ s

/-- A fold that only sends appends what it sends, in order. -/
theorem foldl_send {α : Type} (f : α → Instr) (l : List α) (s : State) :
    l.foldl (fun s a => s.send (f a)) s = { s with inFlight := s.inFlight ++ l.map f } := by
  induction l generalizing s with
  | nil => simp
  | cons a l ih => rw [List.foldl_cons, ih]; simp [State.send_leaves]

/-- Sending for each link appends what is sent, in ascending order. -/
theorem forLinks_send (f : LinkId → Instr) (s : State) :
    forLinks (fun m s => s.send (f m)) s = { s with inFlight := s.inFlight ++ allLinks.map f } :=
  foldl_send f allLinks s

/-- What `stopWalk` leaves unchanged. -/
@[simp] theorem State.stopWalk_frame (s : State) :
    s.stopWalk.pending = s.pending ∧ s.stopWalk.now = s.now ∧ s.stopWalk.window = s.window
      ∧ s.stopWalk.store = s.store ∧ s.stopWalk.groups = s.groups ∧ s.stopWalk.members = s.members
      ∧ s.stopWalk.links = s.links ∧ s.stopWalk.chain.pendingPosts = s.chain.pendingPosts
      ∧ s.stopWalk.inFlight = s.inFlight ∧ s.stopWalk.notices = s.notices := by
  simp only [State.stopWalk]
  simp

/-- What `enterFaulted` leaves unchanged. -/
@[simp] theorem State.enterFaulted_frame (s : State) :
    s.enterFaulted.pending = s.pending ∧ s.enterFaulted.now = s.now ∧ s.enterFaulted.window = s.window
      ∧ s.enterFaulted.store = s.store ∧ s.enterFaulted.groups = s.groups ∧ s.enterFaulted.members = s.members
      ∧ s.enterFaulted.links = s.links ∧ s.enterFaulted.chain.pendingPosts = s.chain.pendingPosts
      ∧ s.enterFaulted.inFlight = s.inFlight ∧ s.enterFaulted.notices = s.notices := by
  simp only [State.enterFaulted]
  (repeat' split) <;> simp

/-- What `chainFault` leaves unchanged. -/
@[simp] theorem State.chainFault_frame (s : State) :
    s.chainFault.pending = s.pending ∧ s.chainFault.now = s.now ∧ s.chainFault.window = s.window
      ∧ s.chainFault.store = s.store ∧ s.chainFault.groups = s.groups ∧ s.chainFault.members = s.members
      ∧ s.chainFault.links = s.links ∧ s.chainFault.chain.pendingPosts = s.chain.pendingPosts
      ∧ s.chainFault.notices.mirrorBase = s.notices.mirrorBase
      ∧ s.chainFault.notices.mirrorState = s.notices.mirrorState ∧ s.chainFault.inFlight = s.inFlight := by
  simp only [State.chainFault]
  simp

/-- What `reportQuiet` leaves unchanged. -/
@[simp] theorem State.reportQuiet_frame (s : State) :
    s.reportQuiet.pending = s.pending ∧ s.reportQuiet.now = s.now ∧ s.reportQuiet.window = s.window
      ∧ s.reportQuiet.store = s.store ∧ s.reportQuiet.groups = s.groups ∧ s.reportQuiet.members = s.members
      ∧ s.reportQuiet.links = s.links ∧ s.reportQuiet.chain = s.chain ∧ s.reportQuiet.port = s.port
      ∧ s.reportQuiet.notices = s.notices := by
  simp only [State.reportQuiet]
  (repeat' split) <;> simp

/-- What `startRetry` leaves unchanged. -/
@[simp] theorem State.startRetry_frame (s : State) (stage : ReportStage) :
    (s.startRetry stage).pending = s.pending ∧ (s.startRetry stage).now = s.now
      ∧ (s.startRetry stage).window = s.window ∧ (s.startRetry stage).store = s.store
      ∧ (s.startRetry stage).groups = s.groups ∧ (s.startRetry stage).members = s.members
      ∧ (s.startRetry stage).links = s.links ∧ (s.startRetry stage).chain.pendingPosts = s.chain.pendingPosts
      ∧ (s.startRetry stage).inFlight = s.inFlight ∧ (s.startRetry stage).notices = s.notices
      ∧ (s.startRetry stage).port = s.port := by
  simp only [State.startRetry]
  simp

/-- What `beginReport` leaves unchanged. -/
@[simp] theorem State.beginReport_frame (s : State) :
    s.beginReport.pending = s.pending ∧ s.beginReport.now = s.now ∧ s.beginReport.window = s.window
      ∧ s.beginReport.store = s.store ∧ s.beginReport.groups = s.groups ∧ s.beginReport.members = s.members
      ∧ s.beginReport.links = s.links ∧ s.beginReport.chain.pendingPosts = s.chain.pendingPosts
      ∧ s.beginReport.inFlight = s.inFlight ∧ s.beginReport.notices = s.notices := by
  simp only [State.beginReport]
  (repeat' split) <;> simp

/-- What `queueReport` leaves unchanged. -/
@[simp] theorem State.queueReport_frame (s : State) (r : Report) :
    (s.queueReport r).pending = s.pending ∧ (s.queueReport r).now = s.now
      ∧ (s.queueReport r).window = s.window ∧ (s.queueReport r).store = s.store
      ∧ (s.queueReport r).groups = s.groups ∧ (s.queueReport r).members = s.members
      ∧ (s.queueReport r).links = s.links ∧ (s.queueReport r).chain.pendingPosts = s.chain.pendingPosts
      ∧ (s.queueReport r).inFlight = s.inFlight ∧ (s.queueReport r).notices = s.notices := by
  simp only [State.queueReport]
  (repeat' split) <;> simp

/-- What `reportOrder` leaves unchanged. -/
@[simp] theorem State.reportOrder_frame (s : State) (order : Addr) (outcome : OrderOutcome) (result : ResultArea) :
    (s.reportOrder order outcome result).pending = s.pending
      ∧ (s.reportOrder order outcome result).now = s.now
      ∧ (s.reportOrder order outcome result).window = s.window
      ∧ (s.reportOrder order outcome result).store = s.store
      ∧ (s.reportOrder order outcome result).groups = s.groups
      ∧ (s.reportOrder order outcome result).members = s.members
      ∧ (s.reportOrder order outcome result).links = s.links
      ∧ (s.reportOrder order outcome result).chain.pendingPosts = s.chain.pendingPosts
      ∧ (s.reportOrder order outcome result).inFlight = s.inFlight
      ∧ (s.reportOrder order outcome result).notices = s.notices := by
  simp only [State.reportOrder]
  simp

/-- What `sendWriteEnd` leaves unchanged. -/
@[simp] theorem State.sendWriteEnd_frame (s : State) (r : Report) :
    (s.sendWriteEnd r).pending = s.pending ∧ (s.sendWriteEnd r).now = s.now
      ∧ (s.sendWriteEnd r).window = s.window ∧ (s.sendWriteEnd r).store = s.store
      ∧ (s.sendWriteEnd r).groups = s.groups ∧ (s.sendWriteEnd r).members = s.members
      ∧ (s.sendWriteEnd r).links = s.links ∧ (s.sendWriteEnd r).chain = s.chain
      ∧ (s.sendWriteEnd r).port = s.port ∧ (s.sendWriteEnd r).notices = s.notices := by
  simp only [State.sendWriteEnd]
  (repeat' split) <;> simp

/-- What `dropHead` leaves unchanged. -/
@[simp] theorem State.dropHead_frame (s : State) :
    s.dropHead.pending = s.pending ∧ s.dropHead.now = s.now ∧ s.dropHead.window = s.window
      ∧ s.dropHead.store = s.store ∧ s.dropHead.groups = s.groups ∧ s.dropHead.members = s.members
      ∧ s.dropHead.links = s.links ∧ s.dropHead.chain.pendingPosts = s.chain.pendingPosts
      ∧ s.dropHead.inFlight = s.inFlight ∧ s.dropHead.port = s.port ∧ s.dropHead.notices = s.notices := by
  simp only [State.dropHead]
  simp

/-- What `giveUp` leaves unchanged. -/
@[simp] theorem State.giveUp_frame (s : State) :
    s.giveUp.pending = s.pending ∧ s.giveUp.now = s.now ∧ s.giveUp.window = s.window
      ∧ s.giveUp.store = s.store ∧ s.giveUp.groups = s.groups ∧ s.giveUp.members = s.members
      ∧ s.giveUp.links = s.links ∧ s.giveUp.chain.pendingPosts = s.chain.pendingPosts
      ∧ s.giveUp.notices.mirrorBase = s.notices.mirrorBase
      ∧ s.giveUp.notices.mirrorState = s.notices.mirrorState := by
  simp only [State.giveUp]
  (repeat' split) <;> simp

/-- What `reportFaulted` leaves unchanged. -/
@[simp] theorem State.reportFaulted_frame (s : State) (stage : ReportStage) :
    (s.reportFaulted stage).pending = s.pending ∧ (s.reportFaulted stage).now = s.now
      ∧ (s.reportFaulted stage).window = s.window ∧ (s.reportFaulted stage).store = s.store
      ∧ (s.reportFaulted stage).groups = s.groups ∧ (s.reportFaulted stage).members = s.members
      ∧ (s.reportFaulted stage).links = s.links
      ∧ (s.reportFaulted stage).chain.pendingPosts = s.chain.pendingPosts
      ∧ (s.reportFaulted stage).notices.mirrorBase = s.notices.mirrorBase
      ∧ (s.reportFaulted stage).notices.mirrorState = s.notices.mirrorState := by
  simp only [State.reportFaulted]
  (repeat' split) <;> simp

/-- What `askReport` leaves unchanged. -/
@[simp] theorem State.askReport_frame (s : State) (stage : ReportStage) :
    (s.askReport stage).pending = s.pending ∧ (s.askReport stage).now = s.now
      ∧ (s.askReport stage).window = s.window ∧ (s.askReport stage).store = s.store
      ∧ (s.askReport stage).groups = s.groups ∧ (s.askReport stage).members = s.members
      ∧ (s.askReport stage).links = s.links ∧ (s.askReport stage).chain.pendingPosts = s.chain.pendingPosts
      ∧ (s.askReport stage).notices.mirrorBase = s.notices.mirrorBase
      ∧ (s.askReport stage).notices.mirrorState = s.notices.mirrorState := by
  simp only [State.askReport]
  (repeat' split) <;> simp

/-- What `stageWritten` leaves unchanged. -/
@[simp] theorem State.stageWritten_frame (s : State) (kind : RequestKind) (next : ReportStage) :
    (s.stageWritten kind next).pending = s.pending ∧ (s.stageWritten kind next).now = s.now
      ∧ (s.stageWritten kind next).window = s.window ∧ (s.stageWritten kind next).store = s.store
      ∧ (s.stageWritten kind next).groups = s.groups ∧ (s.stageWritten kind next).members = s.members
      ∧ (s.stageWritten kind next).links = s.links
      ∧ (s.stageWritten kind next).chain.pendingPosts = s.chain.pendingPosts
      ∧ (s.stageWritten kind next).notices.mirrorBase = s.notices.mirrorBase
      ∧ (s.stageWritten kind next).notices.mirrorState = s.notices.mirrorState := by
  simp only [State.stageWritten]
  (repeat' split) <;> simp

/-- What `tallyDone` leaves unchanged. -/
@[simp] theorem State.tallyDone_frame (s : State) :
    s.tallyDone.pending = s.pending ∧ s.tallyDone.now = s.now ∧ s.tallyDone.window = s.window
      ∧ s.tallyDone.store = s.store ∧ s.tallyDone.groups = s.groups ∧ s.tallyDone.members = s.members
      ∧ s.tallyDone.links = s.links ∧ s.tallyDone.notices.mirrorBase = s.notices.mirrorBase
      ∧ s.tallyDone.notices.mirrorState = s.notices.mirrorState ∧ s.tallyDone.inFlight = s.inFlight
      ∧ s.tallyDone.chain = s.chain := by
  simp only [State.tallyDone]
  simp

/-- What `reportWriteError` leaves unchanged. -/
@[simp] theorem State.reportWriteError_frame (s : State) :
    s.reportWriteError.pending = s.pending ∧ s.reportWriteError.now = s.now
      ∧ s.reportWriteError.window = s.window ∧ s.reportWriteError.store = s.store
      ∧ s.reportWriteError.groups = s.groups ∧ s.reportWriteError.members = s.members
      ∧ s.reportWriteError.links = s.links ∧ s.reportWriteError.chain.pendingPosts = s.chain.pendingPosts
      ∧ s.reportWriteError.notices.mirrorBase = s.notices.mirrorBase
      ∧ s.reportWriteError.notices.mirrorState = s.notices.mirrorState := by
  simp only [State.reportWriteError]
  (repeat' split) <;> simp

/-- What `reportRetry` leaves unchanged. -/
@[simp] theorem State.reportRetry_frame (s : State) :
    s.reportRetry.pending = s.pending ∧ s.reportRetry.window = s.window ∧ s.reportRetry.store = s.store
      ∧ s.reportRetry.groups = s.groups ∧ s.reportRetry.members = s.members ∧ s.reportRetry.links = s.links
      ∧ s.reportRetry.chain.pendingPosts = s.chain.pendingPosts
      ∧ s.reportRetry.notices.mirrorBase = s.notices.mirrorBase
      ∧ s.reportRetry.notices.mirrorState = s.notices.mirrorState := by
  simp only [State.reportRetry]
  (repeat' split) <;> simp

/-- What `askWalk` leaves unchanged. -/
@[simp] theorem State.askWalk_frame (s : State) (step : WalkStep) (r : MemRequest) :
    (s.askWalk step r).pending = s.pending ∧ (s.askWalk step r).now = s.now
      ∧ (s.askWalk step r).window = s.window ∧ (s.askWalk step r).store = s.store
      ∧ (s.askWalk step r).groups = s.groups ∧ (s.askWalk step r).members = s.members
      ∧ (s.askWalk step r).links = s.links ∧ (s.askWalk step r).chain.pendingPosts = s.chain.pendingPosts
      ∧ (s.askWalk step r).notices.mirrorBase = s.notices.mirrorBase
      ∧ (s.askWalk step r).notices.mirrorState = s.notices.mirrorState
      ∧ (s.askWalk step r).inFlight = s.inFlight := by
  simp only [State.askWalk]
  (repeat' split) <;> simp

/-- What `readRecordAt` leaves unchanged. -/
@[simp] theorem State.readRecordAt_frame (s : State) (a : Addr) :
    (s.readRecordAt a).pending = s.pending ∧ (s.readRecordAt a).now = s.now
      ∧ (s.readRecordAt a).window = s.window ∧ (s.readRecordAt a).store = s.store
      ∧ (s.readRecordAt a).groups = s.groups ∧ (s.readRecordAt a).members = s.members
      ∧ (s.readRecordAt a).links = s.links ∧ (s.readRecordAt a).chain.pendingPosts = s.chain.pendingPosts
      ∧ (s.readRecordAt a).notices.mirrorBase = s.notices.mirrorBase
      ∧ (s.readRecordAt a).notices.mirrorState = s.notices.mirrorState
      ∧ (s.readRecordAt a).inFlight = s.inFlight := by
  simp only [State.readRecordAt]
  simp

/-- What `takePlace` leaves unchanged. -/
@[simp] theorem State.takePlace_frame (s : State) :
    s.takePlace.pending = s.pending ∧ s.takePlace.now = s.now ∧ s.takePlace.window = s.window
      ∧ s.takePlace.store = s.store ∧ s.takePlace.groups = s.groups ∧ s.takePlace.members = s.members
      ∧ s.takePlace.links = s.links ∧ s.takePlace.chain.pendingPosts = s.chain.pendingPosts
      ∧ s.takePlace.inFlight = s.inFlight ∧ s.takePlace.port = s.port ∧ s.takePlace.notices = s.notices := by
  simp only [State.takePlace]
  simp

/-- What `beginFetch` leaves unchanged. -/
@[simp] theorem State.beginFetch_frame (s : State) :
    s.beginFetch.pending = s.pending ∧ s.beginFetch.now = s.now ∧ s.beginFetch.window = s.window
      ∧ s.beginFetch.store = s.store ∧ s.beginFetch.groups = s.groups ∧ s.beginFetch.members = s.members
      ∧ s.beginFetch.links = s.links ∧ s.beginFetch.chain.pendingPosts = s.chain.pendingPosts
      ∧ s.beginFetch.notices.mirrorBase = s.notices.mirrorBase
      ∧ s.beginFetch.notices.mirrorState = s.notices.mirrorState ∧ s.beginFetch.inFlight = s.inFlight := by
  simp only [State.beginFetch]
  (repeat' split) <;> simp

/-- What `fetchIfDue` leaves unchanged. -/
@[simp] theorem State.fetchIfDue_frame (s : State) :
    s.fetchIfDue.pending = s.pending ∧ s.fetchIfDue.now = s.now ∧ s.fetchIfDue.window = s.window
      ∧ s.fetchIfDue.store = s.store ∧ s.fetchIfDue.groups = s.groups ∧ s.fetchIfDue.members = s.members
      ∧ s.fetchIfDue.links = s.links ∧ s.fetchIfDue.chain.pendingPosts = s.chain.pendingPosts
      ∧ s.fetchIfDue.notices.mirrorBase = s.notices.mirrorBase
      ∧ s.fetchIfDue.notices.mirrorState = s.notices.mirrorState ∧ s.fetchIfDue.inFlight = s.inFlight := by
  simp only [State.fetchIfDue]
  (repeat' split) <;> simp

/-- What `giveBackPlace` leaves unchanged. -/
@[simp] theorem State.giveBackPlace_frame (s : State) :
    s.giveBackPlace.pending = s.pending ∧ s.giveBackPlace.now = s.now ∧ s.giveBackPlace.window = s.window
      ∧ s.giveBackPlace.store = s.store ∧ s.giveBackPlace.groups = s.groups
      ∧ s.giveBackPlace.members = s.members ∧ s.giveBackPlace.links = s.links
      ∧ s.giveBackPlace.chain.pendingPosts = s.chain.pendingPosts ∧ s.giveBackPlace.inFlight = s.inFlight
      ∧ s.giveBackPlace.port = s.port ∧ s.giveBackPlace.notices = s.notices := by
  simp only [State.giveBackPlace]
  simp

/-- What `startLinkWaitTimer` leaves unchanged. -/
@[simp] theorem State.startLinkWaitTimer_frame (s : State) :
    s.startLinkWaitTimer.pending = s.pending ∧ s.startLinkWaitTimer.now = s.now
      ∧ s.startLinkWaitTimer.window = s.window ∧ s.startLinkWaitTimer.store = s.store
      ∧ s.startLinkWaitTimer.groups = s.groups ∧ s.startLinkWaitTimer.members = s.members
      ∧ s.startLinkWaitTimer.links = s.links ∧ s.startLinkWaitTimer.chain.pendingPosts = s.chain.pendingPosts
      ∧ s.startLinkWaitTimer.inFlight = s.inFlight ∧ s.startLinkWaitTimer.port = s.port
      ∧ s.startLinkWaitTimer.notices = s.notices := by
  simp only [State.startLinkWaitTimer]
  simp

/-- What `enterLinkWait` leaves unchanged. -/
@[simp] theorem State.enterLinkWait_frame (s : State) (way : WaitFor) :
    (s.enterLinkWait way).pending = s.pending ∧ (s.enterLinkWait way).now = s.now
      ∧ (s.enterLinkWait way).window = s.window ∧ (s.enterLinkWait way).store = s.store
      ∧ (s.enterLinkWait way).groups = s.groups ∧ (s.enterLinkWait way).members = s.members
      ∧ (s.enterLinkWait way).links = s.links ∧ (s.enterLinkWait way).chain.pendingPosts = s.chain.pendingPosts
      ∧ (s.enterLinkWait way).inFlight = s.inFlight ∧ (s.enterLinkWait way).port = s.port
      ∧ (s.enterLinkWait way).notices = s.notices := by
  simp only [State.enterLinkWait]
  simp

/-- What `beginReRead` leaves unchanged. -/
@[simp] theorem State.beginReRead_frame (s : State) :
    s.beginReRead.pending = s.pending ∧ s.beginReRead.now = s.now ∧ s.beginReRead.window = s.window
      ∧ s.beginReRead.store = s.store ∧ s.beginReRead.groups = s.groups ∧ s.beginReRead.members = s.members
      ∧ s.beginReRead.links = s.links ∧ s.beginReRead.chain.pendingPosts = s.chain.pendingPosts
      ∧ s.beginReRead.notices.mirrorBase = s.notices.mirrorBase
      ∧ s.beginReRead.notices.mirrorState = s.notices.mirrorState ∧ s.beginReRead.inFlight = s.inFlight := by
  simp only [State.beginReRead]
  (repeat' split) <;> simp

/-- What `linkWaitExpired` leaves unchanged. -/
@[simp] theorem State.linkWaitExpired_frame (s : State) :
    s.linkWaitExpired.pending = s.pending ∧ s.linkWaitExpired.window = s.window
      ∧ s.linkWaitExpired.store = s.store ∧ s.linkWaitExpired.groups = s.groups
      ∧ s.linkWaitExpired.members = s.members ∧ s.linkWaitExpired.links = s.links
      ∧ s.linkWaitExpired.chain.pendingPosts = s.chain.pendingPosts
      ∧ s.linkWaitExpired.notices.mirrorBase = s.notices.mirrorBase
      ∧ s.linkWaitExpired.notices.mirrorState = s.notices.mirrorState ∧ s.linkWaitExpired.inFlight = s.inFlight := by
  simp only [State.linkWaitExpired]
  (repeat' split) <;> simp

/-- What `waitOn` leaves unchanged. -/
@[simp] theorem State.waitOn_frame (s : State) :
    s.waitOn.pending = s.pending ∧ s.waitOn.now = s.now ∧ s.waitOn.window = s.window
      ∧ s.waitOn.store = s.store ∧ s.waitOn.groups = s.groups ∧ s.waitOn.members = s.members
      ∧ s.waitOn.links = s.links ∧ s.waitOn.chain.pendingPosts = s.chain.pendingPosts
      ∧ s.waitOn.notices.mirrorBase = s.notices.mirrorBase
      ∧ s.waitOn.notices.mirrorState = s.notices.mirrorState ∧ s.waitOn.inFlight = s.inFlight := by
  simp only [State.waitOn]
  (repeat' split) <;> simp

/-- What `endLinkWait` leaves unchanged. -/
@[simp] theorem State.endLinkWait_frame (s : State) :
    s.endLinkWait.pending = s.pending ∧ s.endLinkWait.now = s.now ∧ s.endLinkWait.window = s.window
      ∧ s.endLinkWait.store = s.store ∧ s.endLinkWait.groups = s.groups ∧ s.endLinkWait.members = s.members
      ∧ s.endLinkWait.links = s.links ∧ s.endLinkWait.chain.pendingPosts = s.chain.pendingPosts
      ∧ s.endLinkWait.inFlight = s.inFlight ∧ s.endLinkWait.port = s.port ∧ s.endLinkWait.notices = s.notices := by
  simp only [State.endLinkWait]
  simp

/-- What `holdOrTake` leaves unchanged. -/
@[simp] theorem State.holdOrTake_frame (s : State) (r : Record) :
    (s.holdOrTake r).pending = s.pending ∧ (s.holdOrTake r).now = s.now
      ∧ (s.holdOrTake r).window = s.window ∧ (s.holdOrTake r).store = s.store
      ∧ (s.holdOrTake r).groups = s.groups ∧ (s.holdOrTake r).members = s.members
      ∧ (s.holdOrTake r).links = s.links ∧ (s.holdOrTake r).chain.pendingPosts = s.chain.pendingPosts
      ∧ (s.holdOrTake r).notices.mirrorBase = s.notices.mirrorBase
      ∧ (s.holdOrTake r).notices.mirrorState = s.notices.mirrorState ∧ (s.holdOrTake r).inFlight = s.inFlight := by
  simp only [State.holdOrTake]
  (repeat' split) <;> simp

/-- What `judgeRecord` leaves unchanged. -/
@[simp] theorem State.judgeRecord_frame (s : State) (r : Record) :
    (s.judgeRecord r).pending = s.pending ∧ (s.judgeRecord r).now = s.now
      ∧ (s.judgeRecord r).window = s.window ∧ (s.judgeRecord r).store = s.store
      ∧ (s.judgeRecord r).groups = s.groups ∧ (s.judgeRecord r).members = s.members
      ∧ (s.judgeRecord r).links = s.links ∧ (s.judgeRecord r).chain.pendingPosts = s.chain.pendingPosts
      ∧ (s.judgeRecord r).notices.mirrorBase = s.notices.mirrorBase
      ∧ (s.judgeRecord r).notices.mirrorState = s.notices.mirrorState ∧ (s.judgeRecord r).inFlight = s.inFlight := by
  simp only [State.judgeRecord]
  (repeat' split) <;> simp

/-- What `refetch` leaves unchanged. -/
@[simp] theorem State.refetch_frame (s : State) :
    s.refetch.pending = s.pending ∧ s.refetch.now = s.now ∧ s.refetch.window = s.window
      ∧ s.refetch.store = s.store ∧ s.refetch.groups = s.groups ∧ s.refetch.members = s.members
      ∧ s.refetch.links = s.links ∧ s.refetch.chain.pendingPosts = s.chain.pendingPosts
      ∧ s.refetch.notices.mirrorBase = s.notices.mirrorBase
      ∧ s.refetch.notices.mirrorState = s.notices.mirrorState ∧ s.refetch.inFlight = s.inFlight := by
  simp only [State.refetch]
  (repeat' split) <;> simp

/-- What `reCheck` leaves unchanged. -/
@[simp] theorem State.reCheck_frame (s : State) (reason : HeldReason) :
    (s.reCheck reason).pending = s.pending ∧ (s.reCheck reason).now = s.now
      ∧ (s.reCheck reason).window = s.window ∧ (s.reCheck reason).store = s.store
      ∧ (s.reCheck reason).groups = s.groups ∧ (s.reCheck reason).members = s.members
      ∧ (s.reCheck reason).links = s.links ∧ (s.reCheck reason).chain.pendingPosts = s.chain.pendingPosts
      ∧ (s.reCheck reason).notices.mirrorBase = s.notices.mirrorBase
      ∧ (s.reCheck reason).notices.mirrorState = s.notices.mirrorState
      ∧ (s.reCheck reason).inFlight = s.inFlight := by
  simp only [State.reCheck]
  (repeat' split) <;> simp

/-- What `restartWaiting` leaves unchanged. -/
@[simp] theorem State.restartWaiting_frame (s : State) :
    s.restartWaiting.pending = s.pending ∧ s.restartWaiting.now = s.now
      ∧ s.restartWaiting.window = s.window ∧ s.restartWaiting.store = s.store
      ∧ s.restartWaiting.groups = s.groups ∧ s.restartWaiting.members = s.members
      ∧ s.restartWaiting.links = s.links ∧ s.restartWaiting.chain.pendingPosts = s.chain.pendingPosts
      ∧ s.restartWaiting.notices.mirrorBase = s.notices.mirrorBase
      ∧ s.restartWaiting.notices.mirrorState = s.notices.mirrorState ∧ s.restartWaiting.inFlight = s.inFlight := by
  simp only [State.restartWaiting]
  (repeat' split) <;> simp

/-- What `nextFieldDone` leaves unchanged. -/
@[simp] theorem State.nextFieldDone_frame (s : State) (value : Option Addr) :
    (s.nextFieldDone value).pending = s.pending ∧ (s.nextFieldDone value).now = s.now
      ∧ (s.nextFieldDone value).window = s.window ∧ (s.nextFieldDone value).store = s.store
      ∧ (s.nextFieldDone value).groups = s.groups ∧ (s.nextFieldDone value).members = s.members
      ∧ (s.nextFieldDone value).links = s.links
      ∧ (s.nextFieldDone value).chain.pendingPosts = s.chain.pendingPosts
      ∧ (s.nextFieldDone value).notices.mirrorBase = s.notices.mirrorBase
      ∧ (s.nextFieldDone value).notices.mirrorState = s.notices.mirrorState
      ∧ (s.nextFieldDone value).inFlight = s.inFlight := by
  simp only [State.nextFieldDone, State.walkCompletion]
  (repeat' split) <;> simp

/-- What `recordDone` leaves unchanged. -/
@[simp] theorem State.recordDone_frame (s : State) (bytes : Option (List Byte)) :
    (s.recordDone bytes).pending = s.pending ∧ (s.recordDone bytes).now = s.now
      ∧ (s.recordDone bytes).window = s.window ∧ (s.recordDone bytes).store = s.store
      ∧ (s.recordDone bytes).groups = s.groups ∧ (s.recordDone bytes).members = s.members
      ∧ (s.recordDone bytes).links = s.links ∧ (s.recordDone bytes).chain.pendingPosts = s.chain.pendingPosts
      ∧ (s.recordDone bytes).notices.mirrorBase = s.notices.mirrorBase
      ∧ (s.recordDone bytes).notices.mirrorState = s.notices.mirrorState
      ∧ (s.recordDone bytes).inFlight = s.inFlight := by
  simp only [State.recordDone, State.walkCompletion]
  (repeat' split) <;> simp

/-- What `reReadLink` leaves unchanged. -/
@[simp] theorem State.reReadLink_frame (s : State) (v : Addr) :
    (s.reReadLink v).pending = s.pending ∧ (s.reReadLink v).now = s.now
      ∧ (s.reReadLink v).window = s.window ∧ (s.reReadLink v).store = s.store
      ∧ (s.reReadLink v).groups = s.groups ∧ (s.reReadLink v).members = s.members
      ∧ (s.reReadLink v).links = s.links ∧ (s.reReadLink v).chain.pendingPosts = s.chain.pendingPosts
      ∧ (s.reReadLink v).notices.mirrorBase = s.notices.mirrorBase
      ∧ (s.reReadLink v).notices.mirrorState = s.notices.mirrorState ∧ (s.reReadLink v).inFlight = s.inFlight := by
  simp only [State.reReadLink]
  (repeat' split) <;> simp

/-- What `reReadPost` leaves unchanged. -/
@[simp] theorem State.reReadPost_frame (s : State) (r : Record) :
    (s.reReadPost r).pending = s.pending ∧ (s.reReadPost r).now = s.now
      ∧ (s.reReadPost r).window = s.window ∧ (s.reReadPost r).store = s.store
      ∧ (s.reReadPost r).groups = s.groups ∧ (s.reReadPost r).members = s.members
      ∧ (s.reReadPost r).links = s.links ∧ (s.reReadPost r).chain.pendingPosts = s.chain.pendingPosts
      ∧ (s.reReadPost r).notices.mirrorBase = s.notices.mirrorBase
      ∧ (s.reReadPost r).notices.mirrorState = s.notices.mirrorState ∧ (s.reReadPost r).inFlight = s.inFlight := by
  simp only [State.reReadPost]
  (repeat' split) <;> simp

/-- What `reReadDone` leaves unchanged. -/
@[simp] theorem State.reReadDone_frame (s : State) (bytes : Option (List Byte)) :
    (s.reReadDone bytes).pending = s.pending ∧ (s.reReadDone bytes).now = s.now
      ∧ (s.reReadDone bytes).window = s.window ∧ (s.reReadDone bytes).store = s.store
      ∧ (s.reReadDone bytes).groups = s.groups ∧ (s.reReadDone bytes).members = s.members
      ∧ (s.reReadDone bytes).links = s.links ∧ (s.reReadDone bytes).chain.pendingPosts = s.chain.pendingPosts
      ∧ (s.reReadDone bytes).notices.mirrorBase = s.notices.mirrorBase
      ∧ (s.reReadDone bytes).notices.mirrorState = s.notices.mirrorState
      ∧ (s.reReadDone bytes).inFlight = s.inFlight := by
  simp only [State.reReadDone, State.walkCompletion]
  (repeat' split) <;> simp

/-- What `goOn` leaves unchanged. -/
@[simp] theorem State.goOn_frame (s : State) :
    s.goOn.pending = s.pending ∧ s.goOn.now = s.now ∧ s.goOn.window = s.window ∧ s.goOn.store = s.store
      ∧ s.goOn.groups = s.groups ∧ s.goOn.members = s.members ∧ s.goOn.links = s.links
      ∧ s.goOn.chain.pendingPosts = s.chain.pendingPosts ∧ s.goOn.notices.mirrorBase = s.notices.mirrorBase
      ∧ s.goOn.notices.mirrorState = s.notices.mirrorState ∧ s.goOn.inFlight = s.inFlight := by
  simp only [State.goOn]
  (repeat' split) <;> simp

/-- What `doneWritten` leaves unchanged. -/
@[simp] theorem State.doneWritten_frame (s : State) :
    s.doneWritten.pending = s.pending ∧ s.doneWritten.now = s.now ∧ s.doneWritten.window = s.window
      ∧ s.doneWritten.store = s.store ∧ s.doneWritten.groups = s.groups ∧ s.doneWritten.members = s.members
      ∧ s.doneWritten.links = s.links ∧ s.doneWritten.chain.pendingPosts = s.chain.pendingPosts
      ∧ s.doneWritten.notices.mirrorBase = s.notices.mirrorBase
      ∧ s.doneWritten.notices.mirrorState = s.notices.mirrorState := by
  simp only [State.doneWritten]
  (repeat' split) <;> simp

end Sys2Proof.Machine
end

