-- ==== Sys2Proof/Laws/FramesWindow.lean ====
section
/-! SUPPORT. What each operation of the group table, the window, the loader and run control leaves unchanged. -/

namespace Sys2Proof.Machine

/-- What `deriveGroup` leaves unchanged. -/
@[simp] theorem State.deriveGroup_frame (s : State) (g : GroupId) (r : GroupRecord) :
    (s.deriveGroup g r).pending = s.pending ∧ (s.deriveGroup g r).now = s.now
      ∧ (s.deriveGroup g r).window = s.window ∧ (s.deriveGroup g r).store = s.store
      ∧ (s.deriveGroup g r).members = s.members ∧ (s.deriveGroup g r).links = s.links
      ∧ (s.deriveGroup g r).chain = s.chain ∧ (s.deriveGroup g r).port.run = s.port.run
      ∧ (s.deriveGroup g r).port.current = s.port.current
      ∧ (s.deriveGroup g r).notices.mirrorBase = s.notices.mirrorBase
      ∧ (s.deriveGroup g r).notices.mirrorState = s.notices.mirrorState ∧ (s.deriveGroup g r).inFlight = s.inFlight := by
  simp only [State.deriveGroup]
  (repeat' split) <;> simp

/-- What `sendGates` leaves unchanged. -/
@[simp] theorem State.sendGates_frame (s : State) (g : GroupId) (effective : MemberSet) :
    (s.sendGates g effective).pending = s.pending ∧ (s.sendGates g effective).now = s.now
      ∧ (s.sendGates g effective).window = s.window ∧ (s.sendGates g effective).store = s.store
      ∧ (s.sendGates g effective).members = s.members ∧ (s.sendGates g effective).links = s.links
      ∧ (s.sendGates g effective).chain = s.chain ∧ (s.sendGates g effective).port = s.port
      ∧ (s.sendGates g effective).groups = s.groups ∧ (s.sendGates g effective).notices = s.notices := by
  simp only [State.sendGates]
  exact ⟨forLinks_keeps State.pending _ (by intros; simp) _,
    forLinks_keeps State.now _ (by intros; simp) _,
    forLinks_keeps State.window _ (by intros; simp) _,
    forLinks_keeps State.store _ (by intros; simp) _,
    forLinks_keeps State.members _ (by intros; simp) _,
    forLinks_keeps State.links _ (by intros; simp) _,
    forLinks_keeps State.chain _ (by intros; simp) _,
    forLinks_keeps State.port _ (by intros; simp) _,
    forLinks_keeps State.groups _ (by intros; simp) _,
    forLinks_keeps State.notices _ (by intros; simp) _⟩

/-- What `defineGroup` leaves unchanged. -/
@[simp] theorem State.defineGroup_frame (s : State) (g : GroupId) (f : GroupSetFields) :
    (s.defineGroup g f).pending = s.pending ∧ (s.defineGroup g f).now = s.now
      ∧ (s.defineGroup g f).window = s.window ∧ (s.defineGroup g f).store = s.store
      ∧ (s.defineGroup g f).members = s.members ∧ (s.defineGroup g f).links = s.links
      ∧ (s.defineGroup g f).chain = s.chain ∧ (s.defineGroup g f).port.run = s.port.run
      ∧ (s.defineGroup g f).port.current = s.port.current
      ∧ (s.defineGroup g f).notices.mirrorBase = s.notices.mirrorBase
      ∧ (s.defineGroup g f).notices.mirrorState = s.notices.mirrorState := by
  simp only [State.defineGroup]
  simp

/-- What `undefineGroup` leaves unchanged. -/
@[simp] theorem State.undefineGroup_frame (s : State) (g : GroupId) :
    (s.undefineGroup g).pending = s.pending ∧ (s.undefineGroup g).now = s.now
      ∧ (s.undefineGroup g).window = s.window ∧ (s.undefineGroup g).store = s.store
      ∧ (s.undefineGroup g).members = s.members ∧ (s.undefineGroup g).links = s.links
      ∧ (s.undefineGroup g).chain = s.chain ∧ (s.undefineGroup g).port = s.port
      ∧ (s.undefineGroup g).notices.mirrorBase = s.notices.mirrorBase
      ∧ (s.undefineGroup g).notices.mirrorState = s.notices.mirrorState := by
  simp only [State.undefineGroup]
  (repeat' split) <;> simp

/-- What `removeFrom` leaves unchanged. -/
@[simp] theorem State.removeFrom_frame (m : LinkId) (g : GroupId) (s : State) :
    (State.removeFrom m g s).pending = s.pending ∧ (State.removeFrom m g s).now = s.now
      ∧ (State.removeFrom m g s).window = s.window ∧ (State.removeFrom m g s).store = s.store
      ∧ (State.removeFrom m g s).members = s.members ∧ (State.removeFrom m g s).links = s.links
      ∧ (State.removeFrom m g s).chain = s.chain ∧ (State.removeFrom m g s).port.run = s.port.run
      ∧ (State.removeFrom m g s).port.current = s.port.current
      ∧ (State.removeFrom m g s).notices.mirrorBase = s.notices.mirrorBase
      ∧ (State.removeFrom m g s).notices.mirrorState = s.notices.mirrorState := by
  simp only [State.removeFrom]
  (repeat' split) <;> simp

/-- What `removeMember` leaves unchanged. -/
@[simp] theorem State.removeMember_frame (s : State) (m : LinkId) :
    (s.removeMember m).pending = s.pending ∧ (s.removeMember m).now = s.now ∧ (s.removeMember m).window = s.window
      ∧ (s.removeMember m).store = s.store ∧ (s.removeMember m).members = s.members
      ∧ (s.removeMember m).links = s.links ∧ (s.removeMember m).chain = s.chain
      ∧ (s.removeMember m).port.run = s.port.run ∧ (s.removeMember m).port.current = s.port.current
      ∧ (s.removeMember m).notices.mirrorBase = s.notices.mirrorBase
      ∧ (s.removeMember m).notices.mirrorState = s.notices.mirrorState := by
  simp only [State.removeMember]
  exact ⟨forGroups_keeps State.pending _ (by intros; simp) _,
    forGroups_keeps State.now _ (by intros; simp) _,
    forGroups_keeps State.window _ (by intros; simp) _,
    forGroups_keeps State.store _ (by intros; simp) _,
    forGroups_keeps State.members _ (by intros; simp) _,
    forGroups_keeps State.links _ (by intros; simp) _,
    forGroups_keeps State.chain _ (by intros; simp) _,
    forGroups_keeps (fun t : State => t.port.run) _ (by intros; simp) _,
    forGroups_keeps (fun t : State => t.port.current) _ (by intros; simp) _,
    forGroups_keeps (fun t : State => t.notices.mirrorBase) _ (by intros; simp) _,
    forGroups_keeps (fun t : State => t.notices.mirrorState) _ (by intros; simp) _⟩

/-- What `setFrozen` leaves unchanged. -/
@[simp] theorem State.setFrozen_frame (s : State) (offer : List OfferEntry) (flag : Bool) :
    (s.setFrozen offer flag).pending = s.pending ∧ (s.setFrozen offer flag).now = s.now
      ∧ (s.setFrozen offer flag).window = s.window ∧ (s.setFrozen offer flag).store = s.store
      ∧ (s.setFrozen offer flag).members = s.members ∧ (s.setFrozen offer flag).links = s.links
      ∧ (s.setFrozen offer flag).chain = s.chain ∧ (s.setFrozen offer flag).port = s.port
      ∧ (s.setFrozen offer flag).inFlight = s.inFlight
      ∧ (s.setFrozen offer flag).notices.mirrorBase = s.notices.mirrorBase
      ∧ (s.setFrozen offer flag).notices.mirrorState = s.notices.mirrorState := by
  simp only [State.setFrozen]
  exact ⟨foldl_keeps State.pending _ (by intros; simp) _ _,
    foldl_keeps State.now _ (by intros; simp) _ _,
    foldl_keeps State.window _ (by intros; simp) _ _,
    foldl_keeps State.store _ (by intros; simp) _ _,
    foldl_keeps State.members _ (by intros; simp) _ _,
    foldl_keeps State.links _ (by intros; simp) _ _,
    foldl_keeps State.chain _ (by intros; simp) _ _,
    foldl_keeps State.port _ (by intros; simp) _ _,
    foldl_keeps State.inFlight _ (by intros; simp) _ _,
    foldl_keeps (fun t : State => t.notices.mirrorBase) _ (by intros; simp) _ _,
    foldl_keeps (fun t : State => t.notices.mirrorState) _ (by intros; simp) _ _⟩

/-- What `rejoinGroup` leaves unchanged. -/
@[simp] theorem State.rejoinGroup_frame (m : LinkId) (s : State) (e : OfferEntry) :
    (State.rejoinGroup m s e).pending = s.pending ∧ (State.rejoinGroup m s e).now = s.now
      ∧ (State.rejoinGroup m s e).window = s.window ∧ (State.rejoinGroup m s e).store = s.store
      ∧ (State.rejoinGroup m s e).members = s.members ∧ (State.rejoinGroup m s e).links = s.links
      ∧ (State.rejoinGroup m s e).chain = s.chain ∧ (State.rejoinGroup m s e).port.run = s.port.run
      ∧ (State.rejoinGroup m s e).port.current = s.port.current
      ∧ (State.rejoinGroup m s e).notices.mirrorBase = s.notices.mirrorBase
      ∧ (State.rejoinGroup m s e).notices.mirrorState = s.notices.mirrorState := by
  simp only [State.rejoinGroup]
  (repeat' split) <;> simp [forLinks_send]

/-- What `endReadmission` leaves unchanged. -/
@[simp] theorem State.endReadmission_frame (s : State) (m : LinkId) (accepted : Bool) (offer : List OfferEntry) :
    (s.endReadmission m accepted offer).pending = s.pending ∧ (s.endReadmission m accepted offer).now = s.now
      ∧ (s.endReadmission m accepted offer).window = s.window ∧ (s.endReadmission m accepted offer).store = s.store
      ∧ (s.endReadmission m accepted offer).members = s.members
      ∧ (s.endReadmission m accepted offer).links = s.links ∧ (s.endReadmission m accepted offer).chain = s.chain
      ∧ (s.endReadmission m accepted offer).port.run = s.port.run
      ∧ (s.endReadmission m accepted offer).port.current = s.port.current
      ∧ (s.endReadmission m accepted offer).notices.mirrorBase = s.notices.mirrorBase
      ∧ (s.endReadmission m accepted offer).notices.mirrorState = s.notices.mirrorState := by
  have h0 := foldl_keeps (fun t : State => t.pending) (State.rejoinGroup m) (by intros; simp) offer s
  have h1 := foldl_keeps (fun t : State => t.now) (State.rejoinGroup m) (by intros; simp) offer s
  have h2 := foldl_keeps (fun t : State => t.window) (State.rejoinGroup m) (by intros; simp) offer s
  have h3 := foldl_keeps (fun t : State => t.store) (State.rejoinGroup m) (by intros; simp) offer s
  have h4 := foldl_keeps (fun t : State => t.members) (State.rejoinGroup m) (by intros; simp) offer s
  have h5 := foldl_keeps (fun t : State => t.links) (State.rejoinGroup m) (by intros; simp) offer s
  have h6 := foldl_keeps (fun t : State => t.chain) (State.rejoinGroup m) (by intros; simp) offer s
  have h7 := foldl_keeps (fun t : State => t.port.run) (State.rejoinGroup m) (by intros; simp) offer s
  have h10 := foldl_keeps (fun t : State => t.port.current) (State.rejoinGroup m) (by intros; simp) offer s
  have h8 := foldl_keeps (fun t : State => t.notices.mirrorBase) (State.rejoinGroup m) (by intros; simp) offer s
  have h9 := foldl_keeps (fun t : State => t.notices.mirrorState) (State.rejoinGroup m) (by intros; simp) offer s
  simp only [State.endReadmission]
  (repeat' split) <;> simp_all

/-- What `requestAdmission` leaves unchanged. -/
@[simp] theorem State.requestAdmission_frame (s : State) (i : SlotId) (g : GroupId) :
    (s.requestAdmission i g).pending = s.pending ∧ (s.requestAdmission i g).now = s.now
      ∧ (s.requestAdmission i g).window = s.window ∧ (s.requestAdmission i g).store = s.store
      ∧ (s.requestAdmission i g).members = s.members ∧ (s.requestAdmission i g).links = s.links
      ∧ (s.requestAdmission i g).chain = s.chain ∧ (s.requestAdmission i g).port = s.port
      ∧ (s.requestAdmission i g).notices.mirrorBase = s.notices.mirrorBase
      ∧ (s.requestAdmission i g).notices.mirrorState = s.notices.mirrorState := by
  simp only [State.requestAdmission]
  (repeat' split) <;> simp

/-- What `takeAdmission` leaves unchanged. -/
@[simp] theorem State.takeAdmission_frame (s : State) (c : Instr) :
    (s.takeAdmission c).pending = s.pending
      ∧ (s.takeAdmission c).now = s.now
      ∧ (s.takeAdmission c).window = s.window
      ∧ (s.takeAdmission c).store = s.store
      ∧ (s.takeAdmission c).port = s.port
      ∧ (s.takeAdmission c).chain = s.chain
      ∧ (s.takeAdmission c).members = s.members
      ∧ (s.takeAdmission c).links = s.links
      ∧ (s.takeAdmission c).notices.mirrorBase = s.notices.mirrorBase
      ∧ (s.takeAdmission c).notices.mirrorState = s.notices.mirrorState := by
  simp only [State.takeAdmission]
  (repeat' split) <;> simp

/-- What `takeAdmissions` leaves unchanged. -/
@[simp] theorem State.takeAdmissions_frame (s : State) :
    s.takeAdmissions.pending = s.pending
      ∧ s.takeAdmissions.now = s.now
      ∧ s.takeAdmissions.window = s.window
      ∧ s.takeAdmissions.store = s.store
      ∧ s.takeAdmissions.port = s.port
      ∧ s.takeAdmissions.chain = s.chain
      ∧ s.takeAdmissions.members = s.members
      ∧ s.takeAdmissions.links = s.links
      ∧ s.takeAdmissions.notices.mirrorBase = s.notices.mirrorBase
      ∧ s.takeAdmissions.notices.mirrorState = s.notices.mirrorState := by
  simp only [State.takeAdmissions]
  exact ⟨foldl_keeps State.pending _ (by intros; simp) _ _,
    foldl_keeps State.now _ (by intros; simp) _ _,
    foldl_keeps State.window _ (by intros; simp) _ _,
    foldl_keeps State.store _ (by intros; simp) _ _,
    foldl_keeps State.port _ (by intros; simp) _ _,
    foldl_keeps State.chain _ (by intros; simp) _ _,
    foldl_keeps State.members _ (by intros; simp) _ _,
    foldl_keeps State.links _ (by intros; simp) _ _,
    foldl_keeps (fun t : State => t.notices.mirrorBase) _ (by intros; simp) _ _,
    foldl_keeps (fun t : State => t.notices.mirrorState) _ (by intros; simp) _ _⟩

/-- What `countSlot` leaves unchanged. -/
@[simp] theorem State.countSlot_frame (s : State) (g : GroupId) :
    (s.countSlot g).pending = s.pending ∧ (s.countSlot g).now = s.now ∧ (s.countSlot g).window = s.window
      ∧ (s.countSlot g).store = s.store ∧ (s.countSlot g).members = s.members ∧ (s.countSlot g).links = s.links
      ∧ (s.countSlot g).chain = s.chain ∧ (s.countSlot g).port = s.port ∧ (s.countSlot g).inFlight = s.inFlight
      ∧ (s.countSlot g).notices = s.notices := by
  simp only [State.countSlot]
  cases h : s.group g <;> simp [h, NoticeUnit.markGroup, GroupRecord.status]

/-- What `uncountSlot` leaves unchanged. -/
@[simp] theorem State.uncountSlot_frame (s : State) (g : GroupId) :
    (s.uncountSlot g).pending = s.pending ∧ (s.uncountSlot g).now = s.now
      ∧ (s.uncountSlot g).window = s.window ∧ (s.uncountSlot g).store = s.store
      ∧ (s.uncountSlot g).members = s.members ∧ (s.uncountSlot g).links = s.links
      ∧ (s.uncountSlot g).chain = s.chain ∧ (s.uncountSlot g).port = s.port
      ∧ (s.uncountSlot g).inFlight = s.inFlight
      ∧ (s.uncountSlot g).notices.mirrorBase = s.notices.mirrorBase
      ∧ (s.uncountSlot g).notices.mirrorState = s.notices.mirrorState := by
  simp only [State.uncountSlot]
  simp

/-- What `reportPoint` leaves unchanged. -/
@[simp] theorem State.reportPoint_frame (s : State) (i : SlotId) (outcome : OrderOutcome) :
    (s.reportPoint i outcome).pending = s.pending ∧ (s.reportPoint i outcome).now = s.now
      ∧ (s.reportPoint i outcome).members = s.members ∧ (s.reportPoint i outcome).links = s.links
      ∧ (s.reportPoint i outcome).chain.pendingPosts = s.chain.pendingPosts
      ∧ (s.reportPoint i outcome).store = s.store ∧ (s.reportPoint i outcome).groups = s.groups
      ∧ (s.reportPoint i outcome).inFlight = s.inFlight ∧ (s.reportPoint i outcome).notices = s.notices := by
  simp only [State.reportPoint]
  (repeat' split) <;> simp

/-- What `freeSlot` leaves unchanged. -/
@[simp] theorem State.freeSlot_frame (s : State) (i : SlotId) (t : Slot) :
    (s.freeSlot i t).pending = s.pending ∧ (s.freeSlot i t).now = s.now
      ∧ (s.freeSlot i t).members = s.members ∧ (s.freeSlot i t).links = s.links
      ∧ (s.freeSlot i t).store.cells = s.store.cells ∧ (s.freeSlot i t).inFlight = s.inFlight
      ∧ (s.freeSlot i t).chain = s.chain ∧ (s.freeSlot i t).port = s.port
      ∧ (s.freeSlot i t).notices.mirrorBase = s.notices.mirrorBase
      ∧ (s.freeSlot i t).notices.mirrorState = s.notices.mirrorState := by
  simp only [State.freeSlot]
  simp

/-- What `retire` leaves unchanged. -/
@[simp] theorem State.retire_frame (s : State) (i : SlotId) :
    (s.retire i).pending = s.pending ∧ (s.retire i).now = s.now ∧ (s.retire i).members = s.members
      ∧ (s.retire i).links = s.links ∧ (s.retire i).store.cells = s.store.cells ∧ (s.retire i).chain = s.chain
      ∧ (s.retire i).port = s.port
      ∧ (s.retire i).notices.mirrorBase = s.notices.mirrorBase
      ∧ (s.retire i).notices.mirrorState = s.notices.mirrorState := by
  simp only [State.retire]
  (repeat' split) <;> simp

/-- What `afterChange` leaves unchanged. -/
@[simp] theorem State.afterChange_frame (s : State) (i : SlotId) :
    (s.afterChange i).pending = s.pending ∧ (s.afterChange i).now = s.now
      ∧ (s.afterChange i).members = s.members ∧ (s.afterChange i).links = s.links
      ∧ (s.afterChange i).store.cells = s.store.cells
      ∧ (s.afterChange i).chain.pendingPosts = s.chain.pendingPosts
      ∧ (s.afterChange i).notices.mirrorBase = s.notices.mirrorBase
      ∧ (s.afterChange i).notices.mirrorState = s.notices.mirrorState := by
  simp only [State.afterChange]
  (repeat' split) <;> simp

/-- What `failMember` leaves unchanged. -/
@[simp] theorem State.failMember_frame (s : State) (i : SlotId) (t : Slot) (m : LinkId) (cause : FenceCause) :
    (s.failMember i t m cause).pending = s.pending ∧ (s.failMember i t m cause).now = s.now
      ∧ (s.failMember i t m cause).members = s.members ∧ (s.failMember i t m cause).links = s.links
      ∧ (s.failMember i t m cause).store.cells = s.store.cells
      ∧ (s.failMember i t m cause).chain.pendingPosts = s.chain.pendingPosts
      ∧ (s.failMember i t m cause).notices.mirrorBase = s.notices.mirrorBase
      ∧ (s.failMember i t m cause).notices.mirrorState = s.notices.mirrorState := by
  simp only [State.failMember]
  simp

/-- What `reportFailures` leaves unchanged. -/
@[simp] theorem State.reportFailures_frame (s : State) (ms : List LinkId) (cause : FenceCause) :
    (s.reportFailures ms cause).pending = s.pending ∧ (s.reportFailures ms cause).now = s.now
      ∧ (s.reportFailures ms cause).members = s.members ∧ (s.reportFailures ms cause).links = s.links
      ∧ (s.reportFailures ms cause).window = s.window ∧ (s.reportFailures ms cause).store = s.store
      ∧ (s.reportFailures ms cause).groups = s.groups ∧ (s.reportFailures ms cause).chain = s.chain
      ∧ (s.reportFailures ms cause).port = s.port ∧ (s.reportFailures ms cause).notices = s.notices := by
  simp only [State.reportFailures]
  exact ⟨foldl_keeps State.pending _ (by intros; simp) _ _,
    foldl_keeps State.now _ (by intros; simp) _ _,
    foldl_keeps State.members _ (by intros; simp) _ _,
    foldl_keeps State.links _ (by intros; simp) _ _,
    foldl_keeps State.window _ (by intros; simp) _ _,
    foldl_keeps State.store _ (by intros; simp) _ _,
    foldl_keeps State.groups _ (by intros; simp) _ _,
    foldl_keeps State.chain _ (by intros; simp) _ _,
    foldl_keeps State.port _ (by intros; simp) _ _,
    foldl_keeps State.notices _ (by intros; simp) _ _⟩

/-- What `sendEntries` leaves unchanged. -/
@[simp] theorem State.sendEntries_frame (s : State) (i : SlotId) (g : GroupId) (seq : Seq) (ms : List LinkId) :
    (s.sendEntries i g seq ms).pending = s.pending ∧ (s.sendEntries i g seq ms).now = s.now
      ∧ (s.sendEntries i g seq ms).members = s.members ∧ (s.sendEntries i g seq ms).links = s.links
      ∧ (s.sendEntries i g seq ms).window = s.window ∧ (s.sendEntries i g seq ms).store = s.store
      ∧ (s.sendEntries i g seq ms).groups = s.groups ∧ (s.sendEntries i g seq ms).chain = s.chain
      ∧ (s.sendEntries i g seq ms).port = s.port ∧ (s.sendEntries i g seq ms).notices = s.notices := by
  simp only [State.sendEntries]
  exact ⟨foldl_keeps State.pending _ (by intros; simp) _ _,
    foldl_keeps State.now _ (by intros; simp) _ _,
    foldl_keeps State.members _ (by intros; simp) _ _,
    foldl_keeps State.links _ (by intros; simp) _ _,
    foldl_keeps State.window _ (by intros; simp) _ _,
    foldl_keeps State.store _ (by intros; simp) _ _,
    foldl_keeps State.groups _ (by intros; simp) _ _,
    foldl_keeps State.chain _ (by intros; simp) _ _,
    foldl_keeps State.port _ (by intros; simp) _ _,
    foldl_keeps State.notices _ (by intros; simp) _ _⟩

/-- What `openSlot` leaves unchanged. -/
@[simp] theorem State.openSlot_frame (s : State) (i : SlotId) (d : AdmissionData) :
    (s.openSlot i d).pending = s.pending ∧ (s.openSlot i d).now = s.now
      ∧ (s.openSlot i d).members = s.members ∧ (s.openSlot i d).links = s.links
      ∧ (s.openSlot i d).store.cells = s.store.cells
      ∧ (s.openSlot i d).chain.pendingPosts = s.chain.pendingPosts
      ∧ (s.openSlot i d).notices.mirrorBase = s.notices.mirrorBase
      ∧ (s.openSlot i d).notices.mirrorState = s.notices.mirrorState := by
  simp only [State.openSlot]
  (repeat' split) <;> simp

/-- What `refuseSlot` leaves unchanged. -/
@[simp] theorem State.refuseSlot_frame (s : State) (i : SlotId) (why : AdmissionRefusal) :
    (s.refuseSlot i why).pending = s.pending ∧ (s.refuseSlot i why).now = s.now
      ∧ (s.refuseSlot i why).members = s.members ∧ (s.refuseSlot i why).links = s.links
      ∧ (s.refuseSlot i why).chain.pendingPosts = s.chain.pendingPosts ∧ (s.refuseSlot i why).store = s.store
      ∧ (s.refuseSlot i why).groups = s.groups ∧ (s.refuseSlot i why).inFlight = s.inFlight
      ∧ (s.refuseSlot i why).notices = s.notices := by
  simp only [State.refuseSlot]
  (repeat' split) <;> simp

/-- What `takeAck` leaves unchanged. -/
@[simp] theorem State.takeAck_frame (s : State) (i : SlotId) (g : GroupId) (seq : Seq) (m : LinkId) :
    (s.takeAck i g seq m).pending = s.pending ∧ (s.takeAck i g seq m).now = s.now
      ∧ (s.takeAck i g seq m).members = s.members ∧ (s.takeAck i g seq m).links = s.links
      ∧ (s.takeAck i g seq m).store.cells = s.store.cells
      ∧ (s.takeAck i g seq m).chain.pendingPosts = s.chain.pendingPosts
      ∧ (s.takeAck i g seq m).notices.mirrorBase = s.notices.mirrorBase
      ∧ (s.takeAck i g seq m).notices.mirrorState = s.notices.mirrorState := by
  simp only [State.takeAck]
  (repeat' split) <;> simp

/-- What `takeRetryRequest` leaves unchanged. -/
@[simp] theorem State.takeRetryRequest_frame (s : State) (i : SlotId) (g : GroupId) (seq : Seq) (m : LinkId) (limit : Nat) :
    (s.takeRetryRequest i g seq m limit).pending = s.pending
      ∧ (s.takeRetryRequest i g seq m limit).now = s.now
      ∧ (s.takeRetryRequest i g seq m limit).members = s.members
      ∧ (s.takeRetryRequest i g seq m limit).links = s.links
      ∧ (s.takeRetryRequest i g seq m limit).store.cells = s.store.cells
      ∧ (s.takeRetryRequest i g seq m limit).chain.pendingPosts = s.chain.pendingPosts
      ∧ (s.takeRetryRequest i g seq m limit).notices.mirrorBase = s.notices.mirrorBase
      ∧ (s.takeRetryRequest i g seq m limit).notices.mirrorState = s.notices.mirrorState := by
  simp only [State.takeRetryRequest]
  (repeat' split) <;> simp

/-- What `takeFailure` leaves unchanged. -/
@[simp] theorem State.takeFailure_frame (s : State) (i : SlotId) (g : GroupId) (seq : Seq) (m : LinkId) (cause : FenceCause) :
    (s.takeFailure i g seq m cause).pending = s.pending ∧ (s.takeFailure i g seq m cause).now = s.now
      ∧ (s.takeFailure i g seq m cause).members = s.members ∧ (s.takeFailure i g seq m cause).links = s.links
      ∧ (s.takeFailure i g seq m cause).store.cells = s.store.cells
      ∧ (s.takeFailure i g seq m cause).chain.pendingPosts = s.chain.pendingPosts
      ∧ (s.takeFailure i g seq m cause).notices.mirrorBase = s.notices.mirrorBase
      ∧ (s.takeFailure i g seq m cause).notices.mirrorState = s.notices.mirrorState := by
  simp only [State.takeFailure]
  (repeat' split) <;> simp

/-- What `takeLeftQueue` leaves unchanged. -/
@[simp] theorem State.takeLeftQueue_frame (s : State) (i : SlotId) (g : GroupId) (seq : Seq) (m : LinkId) :
    (s.takeLeftQueue i g seq m).pending = s.pending ∧ (s.takeLeftQueue i g seq m).now = s.now
      ∧ (s.takeLeftQueue i g seq m).members = s.members ∧ (s.takeLeftQueue i g seq m).links = s.links
      ∧ (s.takeLeftQueue i g seq m).store.cells = s.store.cells
      ∧ (s.takeLeftQueue i g seq m).chain.pendingPosts = s.chain.pendingPosts
      ∧ (s.takeLeftQueue i g seq m).notices.mirrorBase = s.notices.mirrorBase
      ∧ (s.takeLeftQueue i g seq m).notices.mirrorState = s.notices.mirrorState := by
  simp only [State.takeLeftQueue]
  (repeat' split) <;> simp

/-- What `markFenced` leaves unchanged. -/
@[simp] theorem State.markFenced_frame (s : State) (m : LinkId) :
    (s.markFenced m).pending = s.pending ∧ (s.markFenced m).now = s.now
      ∧ (s.markFenced m).members = s.members ∧ (s.markFenced m).links = s.links
      ∧ (s.markFenced m).store.cells = s.store.cells
      ∧ (s.markFenced m).chain.pendingPosts = s.chain.pendingPosts
      ∧ (s.markFenced m).notices.mirrorBase = s.notices.mirrorBase
      ∧ (s.markFenced m).notices.mirrorState = s.notices.mirrorState := by
  simp only [State.markFenced]
  exact ⟨(foldl_keeps (fun t : State => t.pending) _ (by intros; simp) _ _).trans
      (foldl_keeps (fun t : State => t.pending) _ (by intros; simp) _ _),
    (foldl_keeps (fun t : State => t.now) _ (by intros; simp) _ _).trans
      (foldl_keeps (fun t : State => t.now) _ (by intros; simp) _ _),
    (foldl_keeps (fun t : State => t.members) _ (by intros; simp) _ _).trans
      (foldl_keeps (fun t : State => t.members) _ (by intros; simp) _ _),
    (foldl_keeps (fun t : State => t.links) _ (by intros; simp) _ _).trans
      (foldl_keeps (fun t : State => t.links) _ (by intros; simp) _ _),
    (foldl_keeps (fun t : State => t.store.cells) _ (by intros; simp) _ _).trans
      (foldl_keeps (fun t : State => t.store.cells) _ (by intros; simp) _ _),
    (foldl_keeps (fun t : State => t.chain.pendingPosts) _ (by intros; simp) _ _).trans
      (foldl_keeps (fun t : State => t.chain.pendingPosts) _ (by intros; simp) _ _),
    (foldl_keeps (fun t : State => t.notices.mirrorBase) _ (by intros; simp) _ _).trans
      (foldl_keeps (fun t : State => t.notices.mirrorBase) _ (by intros; simp) _ _),
    (foldl_keeps (fun t : State => t.notices.mirrorState) _ (by intros; simp) _ _).trans
      (foldl_keeps (fun t : State => t.notices.mirrorState) _ (by intros; simp) _ _)⟩

/-- What `poison` leaves unchanged. -/
@[simp] theorem State.poison_frame (s : State) (i : SlotId) (g : GroupId) (seq : Seq) :
    (s.poison i g seq).pending = s.pending ∧ (s.poison i g seq).now = s.now
      ∧ (s.poison i g seq).members = s.members ∧ (s.poison i g seq).links = s.links
      ∧ (s.poison i g seq).store.cells = s.store.cells
      ∧ (s.poison i g seq).chain.pendingPosts = s.chain.pendingPosts
      ∧ (s.poison i g seq).notices.mirrorBase = s.notices.mirrorBase
      ∧ (s.poison i g seq).notices.mirrorState = s.notices.mirrorState := by
  simp only [State.poison]
  (repeat' split) <;> simp

/-- What `deadlineExpired` leaves unchanged. -/
@[simp] theorem State.deadlineExpired_frame (s : State) (i : SlotId) :
    (s.deadlineExpired i).pending = s.pending ∧ (s.deadlineExpired i).members = s.members
      ∧ (s.deadlineExpired i).links = s.links ∧ (s.deadlineExpired i).store.cells = s.store.cells
      ∧ (s.deadlineExpired i).chain.pendingPosts = s.chain.pendingPosts
      ∧ (s.deadlineExpired i).notices.mirrorBase = s.notices.mirrorBase
      ∧ (s.deadlineExpired i).notices.mirrorState = s.notices.mirrorState := by
  simp only [State.deadlineExpired]
  (repeat' split) <;> simp

/-- What `writeEnded` leaves unchanged. -/
@[simp] theorem State.writeEnded_frame (s : State) (i : SlotId) :
    (s.writeEnded i).pending = s.pending ∧ (s.writeEnded i).now = s.now
      ∧ (s.writeEnded i).members = s.members ∧ (s.writeEnded i).links = s.links
      ∧ (s.writeEnded i).store.cells = s.store.cells
      ∧ (s.writeEnded i).chain.pendingPosts = s.chain.pendingPosts
      ∧ (s.writeEnded i).notices.mirrorBase = s.notices.mirrorBase
      ∧ (s.writeEnded i).notices.mirrorState = s.notices.mirrorState := by
  simp only [State.writeEnded]
  (repeat' split) <;> simp

/-- What `freeIfUsed` leaves unchanged. -/
@[simp] theorem State.freeIfUsed_frame (i : SlotId) (s : State) :
    (State.freeIfUsed i s).pending = s.pending ∧ (State.freeIfUsed i s).now = s.now
      ∧ (State.freeIfUsed i s).members = s.members ∧ (State.freeIfUsed i s).links = s.links
      ∧ (State.freeIfUsed i s).store.cells = s.store.cells ∧ (State.freeIfUsed i s).inFlight = s.inFlight
      ∧ (State.freeIfUsed i s).chain = s.chain ∧ (State.freeIfUsed i s).port = s.port
      ∧ (State.freeIfUsed i s).notices.mirrorBase = s.notices.mirrorBase
      ∧ (State.freeIfUsed i s).notices.mirrorState = s.notices.mirrorState := by
  simp only [State.freeIfUsed]
  (repeat' split) <;> simp

/-- What `freeAllSlots` leaves unchanged. -/
@[simp] theorem State.freeAllSlots_frame (s : State) :
    s.freeAllSlots.pending = s.pending ∧ s.freeAllSlots.now = s.now ∧ s.freeAllSlots.members = s.members
      ∧ s.freeAllSlots.links = s.links ∧ s.freeAllSlots.inFlight = s.inFlight ∧ s.freeAllSlots.chain = s.chain
      ∧ s.freeAllSlots.port = s.port
      ∧ s.freeAllSlots.notices.mirrorBase = s.notices.mirrorBase
      ∧ s.freeAllSlots.notices.mirrorState = s.notices.mirrorState
      ∧ s.freeAllSlots.store.cells = s.store.cells := by
  simp only [State.freeAllSlots]
  exact ⟨forSlots_keeps (fun t : State => t.pending) State.freeIfUsed (by intros; simp) s,
    forSlots_keeps (fun t : State => t.now) State.freeIfUsed (by intros; simp) s,
    forSlots_keeps (fun t : State => t.members) State.freeIfUsed (by intros; simp) s,
    forSlots_keeps (fun t : State => t.links) State.freeIfUsed (by intros; simp) s,
    forSlots_keeps (fun t : State => t.inFlight) State.freeIfUsed (by intros; simp) s,
    forSlots_keeps (fun t : State => t.chain) State.freeIfUsed (by intros; simp) s,
    forSlots_keeps (fun t : State => t.port) State.freeIfUsed (by intros; simp) s,
    forSlots_keeps (fun t : State => t.notices.mirrorBase) State.freeIfUsed (by intros; simp) s,
    forSlots_keeps (fun t : State => t.notices.mirrorState) State.freeIfUsed (by intros; simp) s,
    forSlots_keeps (fun t : State => t.store.cells) State.freeIfUsed (by intros; simp) s⟩

/-- What `setLoad` leaves unchanged. -/
@[simp] theorem State.setLoad_frame (s : State) (queue : List SlotId) (load : Option Load) :
    (s.setLoad queue load).pending = s.pending ∧ (s.setLoad queue load).now = s.now
      ∧ (s.setLoad queue load).members = s.members ∧ (s.setLoad queue load).links = s.links
      ∧ (s.setLoad queue load).groups = s.groups ∧ (s.setLoad queue load).store.cells = s.store.cells
      ∧ (s.setLoad queue load).window = s.window ∧ (s.setLoad queue load).inFlight = s.inFlight
      ∧ (s.setLoad queue load).chain = s.chain ∧ (s.setLoad queue load).port = s.port
      ∧ (s.setLoad queue load).notices = s.notices := by
  simp only [State.setLoad]
  simp

/-- What `beginLoads` leaves unchanged. -/
@[simp] theorem State.beginLoads_frame (queue : List SlotId) (s : State) :
    (State.beginLoads queue s).pending = s.pending ∧ (State.beginLoads queue s).now = s.now
      ∧ (State.beginLoads queue s).members = s.members ∧ (State.beginLoads queue s).links = s.links
      ∧ (State.beginLoads queue s).groups = s.groups ∧ (State.beginLoads queue s).store.cells = s.store.cells
      ∧ (State.beginLoads queue s).chain.pendingPosts = s.chain.pendingPosts
      ∧ (State.beginLoads queue s).inFlight = s.inFlight ∧ (State.beginLoads queue s).notices = s.notices := by
  induction queue generalizing s with
  | nil => simp [State.beginLoads]
  | cons i rest ih =>
    simp only [State.beginLoads]
    (repeat' split) <;> simp [ih]

/-- What `loadFault` leaves unchanged. -/
@[simp] theorem State.loadFault_frame (s : State) (i : SlotId) (rest : List SlotId) :
    (s.loadFault i rest).pending = s.pending ∧ (s.loadFault i rest).now = s.now
      ∧ (s.loadFault i rest).members = s.members ∧ (s.loadFault i rest).links = s.links
      ∧ (s.loadFault i rest).groups = s.groups ∧ (s.loadFault i rest).store.cells = s.store.cells
      ∧ (s.loadFault i rest).chain.pendingPosts = s.chain.pendingPosts
      ∧ (s.loadFault i rest).inFlight = s.inFlight ∧ (s.loadFault i rest).notices = s.notices := by
  simp only [State.loadFault]
  simp

/-- What `loadEnd` leaves unchanged. -/
@[simp] theorem State.loadEnd_frame (s : State) (i : SlotId) (t : Slot) (rest : List SlotId) (crc : BitVec 32) :
    (s.loadEnd i t rest crc).pending = s.pending ∧ (s.loadEnd i t rest crc).now = s.now
      ∧ (s.loadEnd i t rest crc).members = s.members ∧ (s.loadEnd i t rest crc).links = s.links
      ∧ (s.loadEnd i t rest crc).groups = s.groups ∧ (s.loadEnd i t rest crc).store.cells = s.store.cells
      ∧ (s.loadEnd i t rest crc).chain.pendingPosts = s.chain.pendingPosts
      ∧ (s.loadEnd i t rest crc).notices = s.notices := by
  simp only [State.loadEnd]
  simp

/-- What `pieceArrived` leaves unchanged. -/
@[simp] theorem State.pieceArrived_frame (s : State) (i : SlotId) (rest : List SlotId) (t : Slot) (l : Load) (piece : List Byte) :
    (s.pieceArrived i rest t l piece).pending = s.pending ∧ (s.pieceArrived i rest t l piece).now = s.now
      ∧ (s.pieceArrived i rest t l piece).members = s.members
      ∧ (s.pieceArrived i rest t l piece).links = s.links ∧ (s.pieceArrived i rest t l piece).groups = s.groups
      ∧ (s.pieceArrived i rest t l piece).chain.pendingPosts = s.chain.pendingPosts
      ∧ (s.pieceArrived i rest t l piece).notices.mirrorBase = s.notices.mirrorBase
      ∧ (s.pieceArrived i rest t l piece).notices.mirrorState = s.notices.mirrorState := by
  simp only [State.pieceArrived]
  (repeat' split) <;> simp

/-- What `pieceDone` leaves unchanged. -/
@[simp] theorem State.pieceDone_frame (s : State) (bytes : Option (List Byte)) :
    (s.pieceDone bytes).pending = s.pending ∧ (s.pieceDone bytes).now = s.now
      ∧ (s.pieceDone bytes).members = s.members ∧ (s.pieceDone bytes).links = s.links
      ∧ (s.pieceDone bytes).groups = s.groups ∧ (s.pieceDone bytes).chain.pendingPosts = s.chain.pendingPosts
      ∧ (s.pieceDone bytes).notices.mirrorBase = s.notices.mirrorBase
      ∧ (s.pieceDone bytes).notices.mirrorState = s.notices.mirrorState := by
  simp only [State.pieceDone]
  (repeat' split) <;> simp

/-- What `dropLoads` leaves unchanged. -/
@[simp] theorem State.dropLoads_frame (s : State) :
    s.dropLoads.pending = s.pending ∧ s.dropLoads.now = s.now ∧ s.dropLoads.members = s.members
      ∧ s.dropLoads.links = s.links ∧ s.dropLoads.groups = s.groups ∧ s.dropLoads.store.cells = s.store.cells
      ∧ s.dropLoads.window = s.window ∧ s.dropLoads.inFlight = s.inFlight ∧ s.dropLoads.chain = s.chain
      ∧ s.dropLoads.port = s.port ∧ s.dropLoads.notices = s.notices := by
  simp only [State.dropLoads]
  simp

/-- What `joinLoader` leaves unchanged. -/
@[simp] theorem State.joinLoader_frame (s : State) (i : SlotId) :
    (s.joinLoader i).pending = s.pending ∧ (s.joinLoader i).now = s.now
      ∧ (s.joinLoader i).members = s.members ∧ (s.joinLoader i).links = s.links
      ∧ (s.joinLoader i).groups = s.groups ∧ (s.joinLoader i).store.cells = s.store.cells
      ∧ (s.joinLoader i).chain.pendingPosts = s.chain.pendingPosts ∧ (s.joinLoader i).inFlight = s.inFlight
      ∧ (s.joinLoader i).notices = s.notices := by
  simp only [State.joinLoader]
  (repeat' split) <;> simp

/-- What `parityFailure` leaves unchanged. -/
@[simp] theorem State.parityFailure_frame (s : State) (b : BlockId) (i : SlotId) (g : GroupId) (seq : Seq) :
    (s.parityFailure b i g seq).pending = s.pending ∧ (s.parityFailure b i g seq).now = s.now
      ∧ (s.parityFailure b i g seq).members = s.members ∧ (s.parityFailure b i g seq).links = s.links
      ∧ (s.parityFailure b i g seq).groups = s.groups ∧ (s.parityFailure b i g seq).store.cells = s.store.cells
      ∧ (s.parityFailure b i g seq).notices.mirrorBase = s.notices.mirrorBase
      ∧ (s.parityFailure b i g seq).notices.mirrorState = s.notices.mirrorState
      ∧ (s.parityFailure b i g seq).window = s.window ∧ (s.parityFailure b i g seq).chain = s.chain
      ∧ (s.parityFailure b i g seq).port.run = s.port.run
      ∧ (s.parityFailure b i g seq).port.current = s.port.current := by
  simp only [State.parityFailure]
  (repeat' split) <;> simp

/-- What `enterRun` leaves unchanged. -/
@[simp] theorem State.enterRun_frame (s : State) (r : RunState) :
    (s.enterRun r).pending = s.pending ∧ (s.enterRun r).now = s.now ∧ (s.enterRun r).window = s.window
      ∧ (s.enterRun r).store = s.store ∧ (s.enterRun r).groups = s.groups ∧ (s.enterRun r).members = s.members
      ∧ (s.enterRun r).links = s.links ∧ (s.enterRun r).inFlight = s.inFlight ∧ (s.enterRun r).chain = s.chain
      ∧ (s.enterRun r).notices.mirrorBase = s.notices.mirrorBase
      ∧ (s.enterRun r).notices.mirrorState = s.notices.mirrorState := by
  simp only [State.enterRun]
  simp

/-- What `testQuiet` leaves unchanged. -/
@[simp] theorem State.testQuiet_frame (s : State) :
    s.testQuiet.pending = s.pending ∧ s.testQuiet.now = s.now ∧ s.testQuiet.window = s.window
      ∧ s.testQuiet.store = s.store ∧ s.testQuiet.groups = s.groups ∧ s.testQuiet.members = s.members
      ∧ s.testQuiet.links = s.links ∧ s.testQuiet.inFlight = s.inFlight ∧ s.testQuiet.chain = s.chain
      ∧ s.testQuiet.notices.mirrorBase = s.notices.mirrorBase
      ∧ s.testQuiet.notices.mirrorState = s.notices.mirrorState := by
  simp only [State.testQuiet]
  (repeat' split) <;> simp

end Sys2Proof.Machine
end

