-- ==== Sys2Proof/Laws/FramesLinks.lean ====
section
/-! SUPPORT. What each operation of the membership unit and the link engines leaves unchanged. -/

namespace Sys2Proof.Machine

/-- What `changeMember` leaves unchanged. -/
@[simp] theorem State.changeMember_frame (s : State) (m : LinkId) (r : Member) :
    (s.changeMember m r).pending = s.pending ∧ (s.changeMember m r).now = s.now
      ∧ (s.changeMember m r).window = s.window ∧ (s.changeMember m r).store = s.store
      ∧ (s.changeMember m r).groups = s.groups ∧ (s.changeMember m r).links = s.links
      ∧ (s.changeMember m r).notices.mirrorBase = s.notices.mirrorBase
      ∧ (s.changeMember m r).notices.mirrorState = s.notices.mirrorState
      ∧ (s.changeMember m r).inFlight = s.inFlight ∧ (s.changeMember m r).chain = s.chain
      ∧ (s.changeMember m r).port.run = s.port.run ∧ (s.changeMember m r).port.current = s.port.current := by
  simp only [State.changeMember]
  simp

/-- What `takeRetryNotice` leaves unchanged. -/
@[simp] theorem State.takeRetryNotice_frame (s : State) (m : LinkId) :
    (s.takeRetryNotice m).pending = s.pending ∧ (s.takeRetryNotice m).now = s.now
      ∧ (s.takeRetryNotice m).window = s.window ∧ (s.takeRetryNotice m).store = s.store
      ∧ (s.takeRetryNotice m).groups = s.groups ∧ (s.takeRetryNotice m).links = s.links
      ∧ (s.takeRetryNotice m).notices.mirrorBase = s.notices.mirrorBase
      ∧ (s.takeRetryNotice m).notices.mirrorState = s.notices.mirrorState
      ∧ (s.takeRetryNotice m).inFlight = s.inFlight ∧ (s.takeRetryNotice m).chain = s.chain
      ∧ (s.takeRetryNotice m).port.run = s.port.run ∧ (s.takeRetryNotice m).port.current = s.port.current := by
  simp only [State.takeRetryNotice]
  (repeat' split) <;> simp

/-- What `takeStreak` leaves unchanged. -/
@[simp] theorem State.takeStreak_frame (s : State) (m : LinkId) (clean : Bool) :
    (s.takeStreak m clean).pending = s.pending ∧ (s.takeStreak m clean).now = s.now
      ∧ (s.takeStreak m clean).window = s.window ∧ (s.takeStreak m clean).store = s.store
      ∧ (s.takeStreak m clean).groups = s.groups ∧ (s.takeStreak m clean).links = s.links
      ∧ (s.takeStreak m clean).notices.mirrorBase = s.notices.mirrorBase
      ∧ (s.takeStreak m clean).notices.mirrorState = s.notices.mirrorState
      ∧ (s.takeStreak m clean).inFlight = s.inFlight ∧ (s.takeStreak m clean).chain = s.chain
      ∧ (s.takeStreak m clean).port.run = s.port.run ∧ (s.takeStreak m clean).port.current = s.port.current := by
  simp only [State.takeStreak]
  (repeat' split) <;> simp

/-- What `fence` leaves unchanged. -/
@[simp] theorem State.fence_frame (s : State) (m : LinkId) (cause : FenceCause) :
    (s.fence m cause).pending = s.pending ∧ (s.fence m cause).now = s.now ∧ (s.fence m cause).window = s.window
      ∧ (s.fence m cause).store = s.store ∧ (s.fence m cause).groups = s.groups ∧ (s.fence m cause).links = s.links
      ∧ (s.fence m cause).notices.mirrorBase = s.notices.mirrorBase
      ∧ (s.fence m cause).notices.mirrorState = s.notices.mirrorState ∧ (s.fence m cause).chain = s.chain
      ∧ (s.fence m cause).port.run = s.port.run ∧ (s.fence m cause).port.current = s.port.current := by
  simp only [State.fence]
  (repeat' split) <;> simp

/-- What `fence` for every link leaves unchanged. -/
@[simp] theorem State.fence_all_frame (s : State) (c : FenceCause) :
    (forLinks (fun m s => s.fence m c) s).pending = s.pending ∧ (forLinks (fun m s => s.fence m c) s).now = s.now
      ∧ (forLinks (fun m s => s.fence m c) s).window = s.window
      ∧ (forLinks (fun m s => s.fence m c) s).store = s.store
      ∧ (forLinks (fun m s => s.fence m c) s).groups = s.groups
      ∧ (forLinks (fun m s => s.fence m c) s).links = s.links
      ∧ (forLinks (fun m s => s.fence m c) s).chain = s.chain
      ∧ (forLinks (fun m s => s.fence m c) s).port.run = s.port.run
      ∧ (forLinks (fun m s => s.fence m c) s).port.current = s.port.current
      ∧ (forLinks (fun m s => s.fence m c) s).notices.mirrorBase = s.notices.mirrorBase
      ∧ (forLinks (fun m s => s.fence m c) s).notices.mirrorState = s.notices.mirrorState :=
  ⟨forLinks_keeps (fun t : State => t.pending) (fun m s => s.fence m c) (by intros; simp) s,
    forLinks_keeps (fun t : State => t.now) (fun m s => s.fence m c) (by intros; simp) s,
    forLinks_keeps (fun t : State => t.window) (fun m s => s.fence m c) (by intros; simp) s,
    forLinks_keeps (fun t : State => t.store) (fun m s => s.fence m c) (by intros; simp) s,
    forLinks_keeps (fun t : State => t.groups) (fun m s => s.fence m c) (by intros; simp) s,
    forLinks_keeps (fun t : State => t.links) (fun m s => s.fence m c) (by intros; simp) s,
    forLinks_keeps (fun t : State => t.chain) (fun m s => s.fence m c) (by intros; simp) s,
    forLinks_keeps (fun t : State => t.port.run) (fun m s => s.fence m c) (by intros; simp) s,
    forLinks_keeps (fun t : State => t.port.current) (fun m s => s.fence m c) (by intros; simp) s,
    forLinks_keeps (fun t : State => t.notices.mirrorBase) (fun m s => s.fence m c) (by intros; simp) s,
    forLinks_keeps (fun t : State => t.notices.mirrorState) (fun m s => s.fence m c) (by intros; simp) s⟩

/-- What `acceptReadmit` leaves unchanged. -/
@[simp] theorem State.acceptReadmit_frame (s : State) (m : LinkId) (order : Addr) (tag : BitVec 32) (offer : List OfferEntry) :
    (s.acceptReadmit m order tag offer).pending = s.pending
      ∧ (s.acceptReadmit m order tag offer).now = s.now ∧ (s.acceptReadmit m order tag offer).window = s.window
      ∧ (s.acceptReadmit m order tag offer).store = s.store
      ∧ (s.acceptReadmit m order tag offer).inFlight = s.inFlight
      ∧ (s.acceptReadmit m order tag offer).chain = s.chain ∧ (s.acceptReadmit m order tag offer).port = s.port
      ∧ (s.acceptReadmit m order tag offer).notices.mirrorBase = s.notices.mirrorBase
      ∧ (s.acceptReadmit m order tag offer).notices.mirrorState = s.notices.mirrorState := by
  simp only [State.acceptReadmit]
  simp

/-- What `dispatchReadmit` leaves unchanged. -/
@[simp] theorem State.dispatchReadmit_frame (s : State) (m : LinkId) (order : Addr) (tag : BitVec 32) :
    (s.dispatchReadmit m order tag).pending = s.pending ∧ (s.dispatchReadmit m order tag).now = s.now
      ∧ (s.dispatchReadmit m order tag).window = s.window ∧ (s.dispatchReadmit m order tag).store = s.store
      ∧ (s.dispatchReadmit m order tag).chain.pendingPosts = s.chain.pendingPosts
      ∧ (s.dispatchReadmit m order tag).inFlight = s.inFlight
      ∧ (s.dispatchReadmit m order tag).notices.mirrorBase = s.notices.mirrorBase
      ∧ (s.dispatchReadmit m order tag).notices.mirrorState = s.notices.mirrorState := by
  simp only [State.dispatchReadmit]
  (repeat' split) <;> simp

/-- What `clearReadmit` leaves unchanged. -/
@[simp] theorem State.clearReadmit_frame (s : State) (m : LinkId) :
    (s.clearReadmit m).pending = s.pending ∧ (s.clearReadmit m).now = s.now
      ∧ (s.clearReadmit m).window = s.window ∧ (s.clearReadmit m).store = s.store
      ∧ (s.clearReadmit m).groups = s.groups ∧ (s.clearReadmit m).links = s.links
      ∧ (s.clearReadmit m).inFlight = s.inFlight ∧ (s.clearReadmit m).chain = s.chain
      ∧ (s.clearReadmit m).port = s.port ∧ (s.clearReadmit m).notices = s.notices := by
  simp only [State.clearReadmit]
  simp

/-- What `endReadmit` leaves unchanged. -/
@[simp] theorem State.endReadmit_frame (s : State) (m : LinkId) (x : Readmit) (outcome : OrderOutcome) (fence : Bool) (deciding : Option GroupId) (lastApplied : List Seq) :
    (s.endReadmit m x outcome fence deciding lastApplied).pending = s.pending
      ∧ (s.endReadmit m x outcome fence deciding lastApplied).now = s.now
      ∧ (s.endReadmit m x outcome fence deciding lastApplied).window = s.window
      ∧ (s.endReadmit m x outcome fence deciding lastApplied).store = s.store
      ∧ (s.endReadmit m x outcome fence deciding lastApplied).groups = s.groups
      ∧ (s.endReadmit m x outcome fence deciding lastApplied).links = s.links
      ∧ (s.endReadmit m x outcome fence deciding lastApplied).chain.pendingPosts = s.chain.pendingPosts
      ∧ (s.endReadmit m x outcome fence deciding lastApplied).notices.mirrorBase = s.notices.mirrorBase
      ∧ (s.endReadmit m x outcome fence deciding lastApplied).notices.mirrorState = s.notices.mirrorState := by
  simp only [State.endReadmit]
  simp

/-- What `replyExpired` leaves unchanged. -/
@[simp] theorem State.replyExpired_frame (s : State) (m : LinkId) :
    (s.replyExpired m).pending = s.pending ∧ (s.replyExpired m).window = s.window
      ∧ (s.replyExpired m).store = s.store ∧ (s.replyExpired m).groups = s.groups
      ∧ (s.replyExpired m).links = s.links ∧ (s.replyExpired m).chain.pendingPosts = s.chain.pendingPosts
      ∧ (s.replyExpired m).notices.mirrorBase = s.notices.mirrorBase
      ∧ (s.replyExpired m).notices.mirrorState = s.notices.mirrorState := by
  simp only [State.replyExpired]
  (repeat' split) <;> simp

/-- What `fallReadmit` leaves unchanged. -/
@[simp] theorem State.fallReadmit_frame (s : State) (m : LinkId) :
    (s.fallReadmit m).pending = s.pending ∧ (s.fallReadmit m).now = s.now
      ∧ (s.fallReadmit m).window = s.window ∧ (s.fallReadmit m).store = s.store
      ∧ (s.fallReadmit m).groups = s.groups ∧ (s.fallReadmit m).links = s.links
      ∧ (s.fallReadmit m).chain.pendingPosts = s.chain.pendingPosts
      ∧ (s.fallReadmit m).notices.mirrorBase = s.notices.mirrorBase
      ∧ (s.fallReadmit m).notices.mirrorState = s.notices.mirrorState := by
  simp only [State.fallReadmit]
  (repeat' split) <;> simp

/-- What `dropReadmit` leaves unchanged. -/
@[simp] theorem State.dropReadmit_frame (m : LinkId) (s : State) :
    (State.dropReadmit m s).pending = s.pending ∧ (State.dropReadmit m s).now = s.now
      ∧ (State.dropReadmit m s).window = s.window ∧ (State.dropReadmit m s).store = s.store
      ∧ (State.dropReadmit m s).groups = s.groups ∧ (State.dropReadmit m s).links = s.links
      ∧ (State.dropReadmit m s).chain = s.chain ∧ (State.dropReadmit m s).port = s.port
      ∧ (State.dropReadmit m s).notices = s.notices := by
  simp only [State.dropReadmit]
  (repeat' split) <;> simp

/-- What `dropReadmit` for every link leaves unchanged. -/
@[simp] theorem State.dropReadmit_all_frame (s : State) :
    (forLinks State.dropReadmit s).pending = s.pending ∧ (forLinks State.dropReadmit s).now = s.now
      ∧ (forLinks State.dropReadmit s).window = s.window ∧ (forLinks State.dropReadmit s).store = s.store
      ∧ (forLinks State.dropReadmit s).groups = s.groups ∧ (forLinks State.dropReadmit s).links = s.links
      ∧ (forLinks State.dropReadmit s).chain = s.chain ∧ (forLinks State.dropReadmit s).port = s.port
      ∧ (forLinks State.dropReadmit s).notices = s.notices :=
  ⟨forLinks_keeps (fun t : State => t.pending) State.dropReadmit (by intros; simp) s,
    forLinks_keeps (fun t : State => t.now) State.dropReadmit (by intros; simp) s,
    forLinks_keeps (fun t : State => t.window) State.dropReadmit (by intros; simp) s,
    forLinks_keeps (fun t : State => t.store) State.dropReadmit (by intros; simp) s,
    forLinks_keeps (fun t : State => t.groups) State.dropReadmit (by intros; simp) s,
    forLinks_keeps (fun t : State => t.links) State.dropReadmit (by intros; simp) s,
    forLinks_keeps (fun t : State => t.chain) State.dropReadmit (by intros; simp) s,
    forLinks_keeps (fun t : State => t.port) State.dropReadmit (by intros; simp) s,
    forLinks_keeps (fun t : State => t.notices) State.dropReadmit (by intros; simp) s⟩

/-- What `endNote` leaves unchanged. -/
@[simp] theorem State.endNote_frame (s : State) (m : LinkId) (n : NoteInFlight) (outcome : OrderOutcome) (result : ResultArea) :
    (s.endNote m n outcome result).pending = s.pending ∧ (s.endNote m n outcome result).window = s.window
      ∧ (s.endNote m n outcome result).store = s.store ∧ (s.endNote m n outcome result).groups = s.groups
      ∧ (s.endNote m n outcome result).chain.pendingPosts = s.chain.pendingPosts
      ∧ (s.endNote m n outcome result).notices.mirrorBase = s.notices.mirrorBase
      ∧ (s.endNote m n outcome result).notices.mirrorState = s.notices.mirrorState
      ∧ (s.endNote m n outcome result).now = s.now ∧ (s.endNote m n outcome result).inFlight = s.inFlight
      ∧ (s.endNote m n outcome result).members = s.members := by
  simp only [State.endNote]
  simp

/-- What `noteExpired` leaves unchanged. -/
@[simp] theorem State.noteExpired_frame (s : State) (m : LinkId) :
    (s.noteExpired m).pending = s.pending ∧ (s.noteExpired m).window = s.window
      ∧ (s.noteExpired m).store = s.store ∧ (s.noteExpired m).groups = s.groups
      ∧ (s.noteExpired m).chain.pendingPosts = s.chain.pendingPosts
      ∧ (s.noteExpired m).notices.mirrorBase = s.notices.mirrorBase
      ∧ (s.noteExpired m).notices.mirrorState = s.notices.mirrorState ∧ (s.noteExpired m).members = s.members
      ∧ (s.noteExpired m).inFlight = s.inFlight := by
  simp only [State.noteExpired]
  (repeat' split) <;> simp

/-- What `fallNote` leaves unchanged. -/
@[simp] theorem State.fallNote_frame (s : State) (m : LinkId) :
    (s.fallNote m).pending = s.pending ∧ (s.fallNote m).window = s.window ∧ (s.fallNote m).store = s.store
      ∧ (s.fallNote m).groups = s.groups ∧ (s.fallNote m).chain.pendingPosts = s.chain.pendingPosts
      ∧ (s.fallNote m).notices.mirrorBase = s.notices.mirrorBase
      ∧ (s.fallNote m).notices.mirrorState = s.notices.mirrorState ∧ (s.fallNote m).now = s.now
      ∧ (s.fallNote m).inFlight = s.inFlight ∧ (s.fallNote m).members = s.members := by
  simp only [State.fallNote]
  (repeat' split) <;> simp

/-- What `takeNoteReply` leaves unchanged. -/
@[simp] theorem State.takeNoteReply_frame (s : State) (m : LinkId) (f : Frame) :
    (s.takeNoteReply m f).pending = s.pending ∧ (s.takeNoteReply m f).window = s.window
      ∧ (s.takeNoteReply m f).store = s.store ∧ (s.takeNoteReply m f).groups = s.groups
      ∧ (s.takeNoteReply m f).chain.pendingPosts = s.chain.pendingPosts
      ∧ (s.takeNoteReply m f).notices.mirrorBase = s.notices.mirrorBase
      ∧ (s.takeNoteReply m f).notices.mirrorState = s.notices.mirrorState ∧ (s.takeNoteReply m f).now = s.now
      ∧ (s.takeNoteReply m f).inFlight = s.inFlight ∧ (s.takeNoteReply m f).members = s.members := by
  simp only [State.takeNoteReply]
  (repeat' split) <;> simp

/-- What `changeLink` leaves unchanged. -/
@[simp] theorem State.changeLink_frame (s : State) (m : LinkId) (l : LinkEngine) :
    (s.changeLink m l).pending = s.pending ∧ (s.changeLink m l).window = s.window
      ∧ (s.changeLink m l).store = s.store ∧ (s.changeLink m l).groups = s.groups
      ∧ (s.changeLink m l).notices.mirrorBase = s.notices.mirrorBase
      ∧ (s.changeLink m l).notices.mirrorState = s.notices.mirrorState ∧ (s.changeLink m l).now = s.now
      ∧ (s.changeLink m l).inFlight = s.inFlight ∧ (s.changeLink m l).members = s.members
      ∧ (s.changeLink m l).chain = s.chain ∧ (s.changeLink m l).port.run = s.port.run
      ∧ (s.changeLink m l).port.current = s.port.current := by
  simp only [State.changeLink]
  simp

/-- What `tryTraining` leaves unchanged. -/
@[simp] theorem State.tryTraining_frame (s : State) (m : LinkId) :
    (s.tryTraining m).pending = s.pending ∧ (s.tryTraining m).window = s.window ∧ (s.tryTraining m).store = s.store
      ∧ (s.tryTraining m).groups = s.groups ∧ (s.tryTraining m).notices.mirrorBase = s.notices.mirrorBase
      ∧ (s.tryTraining m).notices.mirrorState = s.notices.mirrorState ∧ (s.tryTraining m).now = s.now
      ∧ (s.tryTraining m).inFlight = s.inFlight ∧ (s.tryTraining m).members = s.members
      ∧ (s.tryTraining m).chain = s.chain ∧ (s.tryTraining m).port.run = s.port.run
      ∧ (s.tryTraining m).port.current = s.port.current := by
  simp only [State.tryTraining]
  (repeat' split) <;> simp

/-- What `tryTraining` for every link leaves unchanged. -/
@[simp] theorem State.tryTraining_all_frame (s : State) :
    (forLinks (fun m s => s.tryTraining m) s).pending = s.pending
      ∧ (forLinks (fun m s => s.tryTraining m) s).now = s.now
      ∧ (forLinks (fun m s => s.tryTraining m) s).window = s.window
      ∧ (forLinks (fun m s => s.tryTraining m) s).store = s.store
      ∧ (forLinks (fun m s => s.tryTraining m) s).groups = s.groups
      ∧ (forLinks (fun m s => s.tryTraining m) s).members = s.members
      ∧ (forLinks (fun m s => s.tryTraining m) s).inFlight = s.inFlight
      ∧ (forLinks (fun m s => s.tryTraining m) s).chain = s.chain
      ∧ (forLinks (fun m s => s.tryTraining m) s).port.run = s.port.run
      ∧ (forLinks (fun m s => s.tryTraining m) s).port.current = s.port.current
      ∧ (forLinks (fun m s => s.tryTraining m) s).notices.mirrorBase = s.notices.mirrorBase
      ∧ (forLinks (fun m s => s.tryTraining m) s).notices.mirrorState = s.notices.mirrorState :=
  ⟨forLinks_keeps (fun t : State => t.pending) (fun m s => s.tryTraining m) (by intros; simp) s,
    forLinks_keeps (fun t : State => t.now) (fun m s => s.tryTraining m) (by intros; simp) s,
    forLinks_keeps (fun t : State => t.window) (fun m s => s.tryTraining m) (by intros; simp) s,
    forLinks_keeps (fun t : State => t.store) (fun m s => s.tryTraining m) (by intros; simp) s,
    forLinks_keeps (fun t : State => t.groups) (fun m s => s.tryTraining m) (by intros; simp) s,
    forLinks_keeps (fun t : State => t.members) (fun m s => s.tryTraining m) (by intros; simp) s,
    forLinks_keeps (fun t : State => t.inFlight) (fun m s => s.tryTraining m) (by intros; simp) s,
    forLinks_keeps (fun t : State => t.chain) (fun m s => s.tryTraining m) (by intros; simp) s,
    forLinks_keeps (fun t : State => t.port.run) (fun m s => s.tryTraining m) (by intros; simp) s,
    forLinks_keeps (fun t : State => t.port.current) (fun m s => s.tryTraining m) (by intros; simp) s,
    forLinks_keeps (fun t : State => t.notices.mirrorBase) (fun m s => s.tryTraining m) (by intros; simp) s,
    forLinks_keeps (fun t : State => t.notices.mirrorState) (fun m s => s.tryTraining m) (by intros; simp) s⟩

/-- What `leaveTraining` leaves unchanged. -/
@[simp] theorem State.leaveTraining_frame (s : State) (m : LinkId) :
    (s.leaveTraining m).pending = s.pending ∧ (s.leaveTraining m).window = s.window
      ∧ (s.leaveTraining m).store = s.store ∧ (s.leaveTraining m).groups = s.groups
      ∧ (s.leaveTraining m).notices.mirrorBase = s.notices.mirrorBase
      ∧ (s.leaveTraining m).notices.mirrorState = s.notices.mirrorState ∧ (s.leaveTraining m).now = s.now
      ∧ (s.leaveTraining m).inFlight = s.inFlight ∧ (s.leaveTraining m).members = s.members
      ∧ (s.leaveTraining m).chain = s.chain ∧ (s.leaveTraining m).port.run = s.port.run
      ∧ (s.leaveTraining m).port.current = s.port.current := by
  simp only [State.leaveTraining]
  simp

/-- What `enterUp` leaves unchanged. -/
@[simp] theorem State.enterUp_frame (s : State) (m : LinkId) (w : Nat) :
    (s.enterUp m w).pending = s.pending ∧ (s.enterUp m w).window = s.window ∧ (s.enterUp m w).store = s.store
      ∧ (s.enterUp m w).groups = s.groups ∧ (s.enterUp m w).notices.mirrorBase = s.notices.mirrorBase
      ∧ (s.enterUp m w).notices.mirrorState = s.notices.mirrorState ∧ (s.enterUp m w).now = s.now
      ∧ (s.enterUp m w).inFlight = s.inFlight ∧ (s.enterUp m w).members = s.members
      ∧ (s.enterUp m w).chain = s.chain ∧ (s.enterUp m w).port.run = s.port.run
      ∧ (s.enterUp m w).port.current = s.port.current := by
  simp only [State.enterUp]
  simp

/-- What `helloExpired` leaves unchanged. -/
@[simp] theorem State.helloExpired_frame (s : State) (m : LinkId) :
    (s.helloExpired m).pending = s.pending ∧ (s.helloExpired m).window = s.window
      ∧ (s.helloExpired m).store = s.store ∧ (s.helloExpired m).groups = s.groups
      ∧ (s.helloExpired m).inFlight = s.inFlight ∧ (s.helloExpired m).members = s.members
      ∧ (s.helloExpired m).chain = s.chain ∧ (s.helloExpired m).port = s.port
      ∧ (s.helloExpired m).notices = s.notices := by
  simp only [State.helloExpired]
  (repeat' split) <;> simp

/-- What `sendNotices` leaves unchanged. -/
@[simp] theorem State.sendNotices_frame (s : State) (m : LinkId) (es : List DataEntry) :
    (s.sendNotices m es).pending = s.pending ∧ (s.sendNotices m es).window = s.window
      ∧ (s.sendNotices m es).store = s.store ∧ (s.sendNotices m es).groups = s.groups
      ∧ (s.sendNotices m es).now = s.now ∧ (s.sendNotices m es).links = s.links
      ∧ (s.sendNotices m es).members = s.members ∧ (s.sendNotices m es).chain = s.chain
      ∧ (s.sendNotices m es).port = s.port ∧ (s.sendNotices m es).notices = s.notices := by
  simp only [State.sendNotices]
  exact ⟨foldl_keeps State.pending _ (by intros; simp) _ _,
    foldl_keeps State.window _ (by intros; simp) _ _,
    foldl_keeps State.store _ (by intros; simp) _ _,
    foldl_keeps State.groups _ (by intros; simp) _ _,
    foldl_keeps State.now _ (by intros; simp) _ _,
    foldl_keeps State.links _ (by intros; simp) _ _,
    foldl_keeps State.members _ (by intros; simp) _ _,
    foldl_keeps State.chain _ (by intros; simp) _ _,
    foldl_keeps State.port _ (by intros; simp) _ _,
    foldl_keeps State.notices _ (by intros; simp) _ _⟩

/-- What `purge` leaves unchanged. -/
@[simp] theorem State.purge_frame (s : State) (m : LinkId) :
    (s.purge m).pending = s.pending ∧ (s.purge m).window = s.window ∧ (s.purge m).store = s.store
      ∧ (s.purge m).groups = s.groups ∧ (s.purge m).now = s.now ∧ (s.purge m).members = s.members
      ∧ (s.purge m).chain = s.chain ∧ (s.purge m).port = s.port ∧ (s.purge m).notices = s.notices := by
  simp only [State.purge]
  (repeat' split) <;> simp

/-- What `handOverW` leaves unchanged. -/
@[simp] theorem State.handOverW_frame (s : State) (m : LinkId) (w : Nat) :
    (s.handOverW m w).pending = s.pending ∧ (s.handOverW m w).now = s.now
      ∧ (s.handOverW m w).window = s.window ∧ (s.handOverW m w).store = s.store
      ∧ (s.handOverW m w).groups = s.groups ∧ (s.handOverW m w).port = s.port
      ∧ (s.handOverW m w).chain = s.chain ∧ (s.handOverW m w).members = s.members
      ∧ (s.handOverW m w).inFlight = s.inFlight ∧ (s.handOverW m w).notices.mirrorBase = s.notices.mirrorBase
      ∧ (s.handOverW m w).notices.mirrorState = s.notices.mirrorState := by
  simp only [State.handOverW]
  (repeat' split) <;> simp

/-- What `requestFence` leaves unchanged. -/
@[simp] theorem State.requestFence_frame (s : State) (m : LinkId) (setFence : Bool) :
    (s.requestFence m setFence).pending = s.pending ∧ (s.requestFence m setFence).now = s.now
      ∧ (s.requestFence m setFence).window = s.window ∧ (s.requestFence m setFence).store = s.store
      ∧ (s.requestFence m setFence).groups = s.groups ∧ (s.requestFence m setFence).port = s.port
      ∧ (s.requestFence m setFence).chain = s.chain ∧ (s.requestFence m setFence).notices = s.notices
      ∧ (s.requestFence m setFence).members = s.members ∧ (s.requestFence m setFence).inFlight = s.inFlight := by
  simp only [State.requestFence]
  (repeat' split) <;> simp

/-- What `takeMembership` leaves unchanged. -/
@[simp] theorem State.takeMembership_frame (s : State) (c : Instr) :
    (s.takeMembership c).pending = s.pending ∧ (s.takeMembership c).now = s.now
      ∧ (s.takeMembership c).window = s.window ∧ (s.takeMembership c).store = s.store
      ∧ (s.takeMembership c).port.run = s.port.run ∧ (s.takeMembership c).port.current = s.port.current
      ∧ (s.takeMembership c).chain = s.chain ∧ (s.takeMembership c).members = s.members
      ∧ (s.takeMembership c).notices.mirrorBase = s.notices.mirrorBase
      ∧ (s.takeMembership c).notices.mirrorState = s.notices.mirrorState := by
  simp only [State.takeMembership]
  (repeat' split) <;> simp

/-- What `takeMembershipAll` leaves unchanged. -/
@[simp] theorem State.takeMembershipAll_frame (s : State) :
    s.takeMembershipAll.pending = s.pending ∧ s.takeMembershipAll.now = s.now
      ∧ s.takeMembershipAll.window = s.window ∧ s.takeMembershipAll.store = s.store
      ∧ s.takeMembershipAll.port.run = s.port.run ∧ s.takeMembershipAll.port.current = s.port.current
      ∧ s.takeMembershipAll.chain = s.chain ∧ s.takeMembershipAll.members = s.members
      ∧ s.takeMembershipAll.notices.mirrorBase = s.notices.mirrorBase
      ∧ s.takeMembershipAll.notices.mirrorState = s.notices.mirrorState := by
  simp only [State.takeMembershipAll]
  exact ⟨foldl_keeps State.pending _ (by intros; simp) _ _,
    foldl_keeps State.now _ (by intros; simp) _ _,
    foldl_keeps State.window _ (by intros; simp) _ _,
    foldl_keeps State.store _ (by intros; simp) _ _,
    foldl_keeps (fun t : State => t.port.run) _ (by intros; simp) _ _,
    foldl_keeps (fun t : State => t.port.current) _ (by intros; simp) _ _,
    foldl_keeps State.chain _ (by intros; simp) _ _,
    foldl_keeps State.members _ (by intros; simp) _ _,
    foldl_keeps (fun t : State => t.notices.mirrorBase) _ (by intros; simp) _ _,
    foldl_keeps (fun t : State => t.notices.mirrorState) _ (by intros; simp) _ _⟩

/-- What `endOrder` leaves unchanged. -/
@[simp] theorem State.endOrder_frame (s : State) (order : Addr) (outcome : OrderOutcome) :
    (s.endOrder order outcome).pending = s.pending ∧ (s.endOrder order outcome).now = s.now
      ∧ (s.endOrder order outcome).chain.pendingPosts = s.chain.pendingPosts
      ∧ (s.endOrder order outcome).window = s.window ∧ (s.endOrder order outcome).store = s.store
      ∧ (s.endOrder order outcome).groups = s.groups ∧ (s.endOrder order outcome).members = s.members
      ∧ (s.endOrder order outcome).links = s.links ∧ (s.endOrder order outcome).inFlight = s.inFlight
      ∧ (s.endOrder order outcome).notices = s.notices := by
  simp only [State.endOrder]
  simp

/-- What `excludeCheck` leaves unchanged. -/
@[simp] theorem State.excludeCheck_frame (s : State) :
    s.excludeCheck.pending = s.pending ∧ s.excludeCheck.now = s.now
      ∧ s.excludeCheck.chain.pendingPosts = s.chain.pendingPosts
      ∧ s.excludeCheck.notices.mirrorBase = s.notices.mirrorBase
      ∧ s.excludeCheck.notices.mirrorState = s.notices.mirrorState ∧ s.excludeCheck.window = s.window
      ∧ s.excludeCheck.store = s.store ∧ s.excludeCheck.groups = s.groups ∧ s.excludeCheck.members = s.members
      ∧ s.excludeCheck.links = s.links ∧ s.excludeCheck.inFlight = s.inFlight := by
  simp only [State.excludeCheck]
  (repeat' split) <;> simp

/-- What `endReadmitOk` leaves unchanged. -/
@[simp] theorem State.endReadmitOk_frame (s : State) (m : LinkId) (x : Readmit) (w : Nat) (lastApplied : List Seq) :
    (s.endReadmitOk m x w lastApplied).pending = s.pending ∧ (s.endReadmitOk m x w lastApplied).now = s.now
      ∧ (s.endReadmitOk m x w lastApplied).window = s.window ∧ (s.endReadmitOk m x w lastApplied).store = s.store
      ∧ (s.endReadmitOk m x w lastApplied).chain.pendingPosts = s.chain.pendingPosts
      ∧ (s.endReadmitOk m x w lastApplied).notices.mirrorBase = s.notices.mirrorBase
      ∧ (s.endReadmitOk m x w lastApplied).notices.mirrorState = s.notices.mirrorState := by
  simp only [State.endReadmitOk]
  simp

/-- What `judgeReply` leaves unchanged. -/
@[simp] theorem State.judgeReply_frame (s : State) (m : LinkId) (x : Readmit) (f : Frame) :
    (s.judgeReply m x f).pending = s.pending ∧ (s.judgeReply m x f).now = s.now
      ∧ (s.judgeReply m x f).window = s.window ∧ (s.judgeReply m x f).store = s.store
      ∧ (s.judgeReply m x f).chain.pendingPosts = s.chain.pendingPosts
      ∧ (s.judgeReply m x f).notices.mirrorBase = s.notices.mirrorBase
      ∧ (s.judgeReply m x f).notices.mirrorState = s.notices.mirrorState := by
  simp only [State.judgeReply]
  (repeat' split) <;> simp

/-- What `takeRejoinReply` leaves unchanged. -/
@[simp] theorem State.takeRejoinReply_frame (s : State) (m : LinkId) (f : Frame) :
    (s.takeRejoinReply m f).pending = s.pending ∧ (s.takeRejoinReply m f).now = s.now
      ∧ (s.takeRejoinReply m f).window = s.window ∧ (s.takeRejoinReply m f).store = s.store
      ∧ (s.takeRejoinReply m f).chain.pendingPosts = s.chain.pendingPosts
      ∧ (s.takeRejoinReply m f).notices.mirrorBase = s.notices.mirrorBase
      ∧ (s.takeRejoinReply m f).notices.mirrorState = s.notices.mirrorState := by
  simp only [State.takeRejoinReply]
  (repeat' split) <;> simp

/-- What `sendLinkDown` leaves unchanged. -/
@[simp] theorem State.sendLinkDown_frame (s : State) (m : LinkId) (ks : List SlotKey) :
    (s.sendLinkDown m ks).pending = s.pending ∧ (s.sendLinkDown m ks).window = s.window
      ∧ (s.sendLinkDown m ks).store = s.store ∧ (s.sendLinkDown m ks).groups = s.groups
      ∧ (s.sendLinkDown m ks).now = s.now ∧ (s.sendLinkDown m ks).links = s.links
      ∧ (s.sendLinkDown m ks).members = s.members ∧ (s.sendLinkDown m ks).chain = s.chain
      ∧ (s.sendLinkDown m ks).port = s.port ∧ (s.sendLinkDown m ks).notices = s.notices := by
  simp only [State.sendLinkDown]
  exact ⟨foldl_keeps State.pending _ (by intros; simp) _ _,
    foldl_keeps State.window _ (by intros; simp) _ _,
    foldl_keeps State.store _ (by intros; simp) _ _,
    foldl_keeps State.groups _ (by intros; simp) _ _,
    foldl_keeps State.now _ (by intros; simp) _ _,
    foldl_keeps State.links _ (by intros; simp) _ _,
    foldl_keeps State.members _ (by intros; simp) _ _,
    foldl_keeps State.chain _ (by intros; simp) _ _,
    foldl_keeps State.port _ (by intros; simp) _ _,
    foldl_keeps State.notices _ (by intros; simp) _ _⟩

/-- What `fall` leaves unchanged. -/
@[simp] theorem State.fall_frame (s : State) (m : LinkId) :
    (s.fall m).pending = s.pending ∧ (s.fall m).window = s.window ∧ (s.fall m).store = s.store
      ∧ (s.fall m).groups = s.groups ∧ (s.fall m).chain.pendingPosts = s.chain.pendingPosts
      ∧ (s.fall m).notices.mirrorBase = s.notices.mirrorBase
      ∧ (s.fall m).notices.mirrorState = s.notices.mirrorState ∧ (s.fall m).now = s.now := by
  simp only [State.fall]
  simp

/-- What `signalOn` leaves unchanged. -/
@[simp] theorem State.signalOn_frame (s : State) (m : LinkId) :
    (s.signalOn m).pending = s.pending ∧ (s.signalOn m).window = s.window ∧ (s.signalOn m).store = s.store
      ∧ (s.signalOn m).groups = s.groups ∧ (s.signalOn m).notices.mirrorBase = s.notices.mirrorBase
      ∧ (s.signalOn m).notices.mirrorState = s.notices.mirrorState ∧ (s.signalOn m).now = s.now
      ∧ (s.signalOn m).inFlight = s.inFlight ∧ (s.signalOn m).members = s.members ∧ (s.signalOn m).chain = s.chain
      ∧ (s.signalOn m).port.run = s.port.run ∧ (s.signalOn m).port.current = s.port.current := by
  simp only [State.signalOn]
  simp

/-- What `signalOff` leaves unchanged. -/
@[simp] theorem State.signalOff_frame (s : State) (m : LinkId) :
    (s.signalOff m).pending = s.pending ∧ (s.signalOff m).window = s.window
      ∧ (s.signalOff m).store = s.store ∧ (s.signalOff m).groups = s.groups
      ∧ (s.signalOff m).chain.pendingPosts = s.chain.pendingPosts
      ∧ (s.signalOff m).notices.mirrorBase = s.notices.mirrorBase
      ∧ (s.signalOff m).notices.mirrorState = s.notices.mirrorState ∧ (s.signalOff m).now = s.now := by
  simp only [State.signalOff]
  (repeat' split) <;> simp

/-- What `silenceExpired` leaves unchanged. -/
@[simp] theorem State.silenceExpired_frame (s : State) (m : LinkId) :
    (s.silenceExpired m).pending = s.pending ∧ (s.silenceExpired m).window = s.window
      ∧ (s.silenceExpired m).store = s.store ∧ (s.silenceExpired m).groups = s.groups
      ∧ (s.silenceExpired m).chain.pendingPosts = s.chain.pendingPosts
      ∧ (s.silenceExpired m).notices.mirrorBase = s.notices.mirrorBase
      ∧ (s.silenceExpired m).notices.mirrorState = s.notices.mirrorState := by
  simp only [State.silenceExpired]
  (repeat' split) <;> simp

/-- What `takeDataEntry` leaves unchanged. -/
@[simp] theorem State.takeDataEntry_frame (s : State) (m : LinkId) (i : SlotId) (g : GroupId) (seq : Seq) :
    (s.takeDataEntry m i g seq).pending = s.pending ∧ (s.takeDataEntry m i g seq).now = s.now
      ∧ (s.takeDataEntry m i g seq).window = s.window ∧ (s.takeDataEntry m i g seq).store = s.store
      ∧ (s.takeDataEntry m i g seq).groups = s.groups ∧ (s.takeDataEntry m i g seq).port = s.port
      ∧ (s.takeDataEntry m i g seq).chain = s.chain ∧ (s.takeDataEntry m i g seq).notices = s.notices
      ∧ (s.takeDataEntry m i g seq).members = s.members := by
  simp only [State.takeDataEntry]
  (repeat' split) <;> simp

/-- What `takeRetryAnswer` leaves unchanged. -/
@[simp] theorem State.takeRetryAnswer_frame (s : State) (m : LinkId) (i : SlotId) (g : GroupId) (seq : Seq) (retry : Bool) :
    (s.takeRetryAnswer m i g seq retry).pending = s.pending
      ∧ (s.takeRetryAnswer m i g seq retry).now = s.now ∧ (s.takeRetryAnswer m i g seq retry).window = s.window
      ∧ (s.takeRetryAnswer m i g seq retry).store = s.store
      ∧ (s.takeRetryAnswer m i g seq retry).groups = s.groups
      ∧ (s.takeRetryAnswer m i g seq retry).port = s.port ∧ (s.takeRetryAnswer m i g seq retry).chain = s.chain
      ∧ (s.takeRetryAnswer m i g seq retry).notices = s.notices
      ∧ (s.takeRetryAnswer m i g seq retry).members = s.members := by
  simp only [State.takeRetryAnswer]
  (repeat' split) <;> simp

/-- What `leaveQueue` leaves unchanged. -/
@[simp] theorem State.leaveQueue_frame (s : State) (m : LinkId) (e : DataEntry) :
    (s.leaveQueue m e).pending = s.pending ∧ (s.leaveQueue m e).now = s.now
      ∧ (s.leaveQueue m e).window = s.window ∧ (s.leaveQueue m e).store = s.store
      ∧ (s.leaveQueue m e).groups = s.groups ∧ (s.leaveQueue m e).port = s.port
      ∧ (s.leaveQueue m e).chain = s.chain ∧ (s.leaveQueue m e).notices = s.notices
      ∧ (s.leaveQueue m e).members = s.members := by
  simp only [State.leaveQueue]
  simp

/-- What `chooseAll` leaves unchanged. -/
@[simp] theorem State.chooseAll_frame (s : State) :
    s.chooseAll.pending = s.pending ∧ s.chooseAll.now = s.now ∧ s.chooseAll.window = s.window
      ∧ s.chooseAll.store = s.store ∧ s.chooseAll.groups = s.groups ∧ s.chooseAll.port = s.port
      ∧ s.chooseAll.chain = s.chain ∧ s.chooseAll.notices = s.notices ∧ s.chooseAll.members = s.members
      ∧ s.chooseAll.inFlight = s.inFlight := by
  simp only [State.chooseAll]
  simp

/-- What `sendHello` leaves unchanged. -/
@[simp] theorem State.sendHello_frame (s : State) (m : LinkId) :
    (s.sendHello m).pending = s.pending ∧ (s.sendHello m).now = s.now ∧ (s.sendHello m).window = s.window
      ∧ (s.sendHello m).store = s.store ∧ (s.sendHello m).groups = s.groups ∧ (s.sendHello m).port = s.port
      ∧ (s.sendHello m).chain = s.chain ∧ (s.sendHello m).notices = s.notices
      ∧ (s.sendHello m).members = s.members ∧ (s.sendHello m).inFlight = s.inFlight := by
  simp only [State.sendHello]
  simp

/-- What `sendProbe` leaves unchanged. -/
@[simp] theorem State.sendProbe_frame (s : State) (m : LinkId) :
    (s.sendProbe m).pending = s.pending ∧ (s.sendProbe m).now = s.now ∧ (s.sendProbe m).window = s.window
      ∧ (s.sendProbe m).store = s.store ∧ (s.sendProbe m).groups = s.groups ∧ (s.sendProbe m).port = s.port
      ∧ (s.sendProbe m).chain = s.chain ∧ (s.sendProbe m).notices = s.notices
      ∧ (s.sendProbe m).members = s.members ∧ (s.sendProbe m).inFlight = s.inFlight := by
  simp only [State.sendProbe]
  simp

/-- What `sendFence` leaves unchanged. -/
@[simp] theorem State.sendFence_frame (s : State) (m : LinkId) :
    (s.sendFence m).pending = s.pending ∧ (s.sendFence m).now = s.now ∧ (s.sendFence m).window = s.window
      ∧ (s.sendFence m).store = s.store ∧ (s.sendFence m).groups = s.groups ∧ (s.sendFence m).port = s.port
      ∧ (s.sendFence m).chain = s.chain ∧ (s.sendFence m).notices = s.notices
      ∧ (s.sendFence m).members = s.members ∧ (s.sendFence m).inFlight = s.inFlight := by
  simp only [State.sendFence]
  simp

/-- What `sendRejoin` leaves unchanged. -/
@[simp] theorem State.sendRejoin_frame (s : State) (m : LinkId) :
    (s.sendRejoin m).pending = s.pending ∧ (s.sendRejoin m).now = s.now
      ∧ (s.sendRejoin m).window = s.window ∧ (s.sendRejoin m).store = s.store
      ∧ (s.sendRejoin m).groups = s.groups ∧ (s.sendRejoin m).port = s.port ∧ (s.sendRejoin m).chain = s.chain
      ∧ (s.sendRejoin m).notices = s.notices ∧ (s.sendRejoin m).inFlight = s.inFlight := by
  simp only [State.sendRejoin]
  (repeat' split) <;> simp

/-- What `sendEpoch` leaves unchanged. -/
@[simp] theorem State.sendEpoch_frame (s : State) (m : LinkId) (g : GroupId) :
    (s.sendEpoch m g).pending = s.pending ∧ (s.sendEpoch m g).now = s.now
      ∧ (s.sendEpoch m g).window = s.window ∧ (s.sendEpoch m g).store = s.store
      ∧ (s.sendEpoch m g).groups = s.groups ∧ (s.sendEpoch m g).port = s.port
      ∧ (s.sendEpoch m g).chain = s.chain ∧ (s.sendEpoch m g).notices = s.notices
      ∧ (s.sendEpoch m g).members = s.members ∧ (s.sendEpoch m g).inFlight = s.inFlight := by
  simp only [State.sendEpoch]
  (repeat' split) <;> simp

/-- What `sendNote` leaves unchanged. -/
@[simp] theorem State.sendNote_frame (s : State) (m : LinkId) :
    (s.sendNote m).pending = s.pending ∧ (s.sendNote m).now = s.now ∧ (s.sendNote m).window = s.window
      ∧ (s.sendNote m).store = s.store ∧ (s.sendNote m).groups = s.groups ∧ (s.sendNote m).port = s.port
      ∧ (s.sendNote m).chain = s.chain ∧ (s.sendNote m).notices = s.notices
      ∧ (s.sendNote m).members = s.members ∧ (s.sendNote m).inFlight = s.inFlight := by
  simp only [State.sendNote]
  (repeat' split) <;> simp

/-- What `sendControl` leaves unchanged. -/
@[simp] theorem State.sendControl_frame (s : State) (m : LinkId) (c : ControlFrame) :
    (s.sendControl m c).pending = s.pending ∧ (s.sendControl m c).now = s.now
      ∧ (s.sendControl m c).window = s.window ∧ (s.sendControl m c).store = s.store
      ∧ (s.sendControl m c).groups = s.groups ∧ (s.sendControl m c).port = s.port
      ∧ (s.sendControl m c).chain = s.chain ∧ (s.sendControl m c).notices = s.notices
      ∧ (s.sendControl m c).inFlight = s.inFlight := by
  simp only [State.sendControl]
  (repeat' split) <;> simp

/-- What `sendWrite` leaves unchanged. -/
@[simp] theorem State.sendWrite_frame (s : State) (m : LinkId) (e : DataEntry) (t : Slot) :
    (s.sendWrite m e t).pending = s.pending ∧ (s.sendWrite m e t).now = s.now
      ∧ (s.sendWrite m e t).window = s.window ∧ (s.sendWrite m e t).store = s.store
      ∧ (s.sendWrite m e t).groups = s.groups ∧ (s.sendWrite m e t).port = s.port
      ∧ (s.sendWrite m e t).chain = s.chain ∧ (s.sendWrite m e t).notices = s.notices
      ∧ (s.sendWrite m e t).members = s.members := by
  simp only [State.sendWrite]
  simp

/-- What `readFault` leaves unchanged. -/
@[simp] theorem State.readFault_frame (s : State) (m : LinkId) (e : DataEntry) (word : Nat) :
    (s.readFault m e word).pending = s.pending ∧ (s.readFault m e word).now = s.now
      ∧ (s.readFault m e word).window = s.window ∧ (s.readFault m e word).groups = s.groups
      ∧ (s.readFault m e word).port.run = s.port.run ∧ (s.readFault m e word).port.current = s.port.current
      ∧ (s.readFault m e word).chain = s.chain ∧ (s.readFault m e word).members = s.members
      ∧ (s.readFault m e word).store.cells = s.store.cells
      ∧ (s.readFault m e word).notices.mirrorBase = s.notices.mirrorBase
      ∧ (s.readFault m e word).notices.mirrorState = s.notices.mirrorState := by
  simp only [State.readFault]
  simp

/-- What `frameReadDone` leaves unchanged. -/
@[simp] theorem State.frameReadDone_frame (s : State) (m : LinkId) (upsets : List Nat) :
    (s.frameReadDone m upsets).pending = s.pending ∧ (s.frameReadDone m upsets).now = s.now
      ∧ (s.frameReadDone m upsets).window = s.window ∧ (s.frameReadDone m upsets).groups = s.groups
      ∧ (s.frameReadDone m upsets).port.run = s.port.run ∧ (s.frameReadDone m upsets).port.current = s.port.current
      ∧ (s.frameReadDone m upsets).chain = s.chain ∧ (s.frameReadDone m upsets).members = s.members
      ∧ (s.frameReadDone m upsets).store.cells = s.store.cells
      ∧ (s.frameReadDone m upsets).notices.mirrorBase = s.notices.mirrorBase
      ∧ (s.frameReadDone m upsets).notices.mirrorState = s.notices.mirrorState := by
  simp only [State.frameReadDone]
  (repeat' split) <;> simp

/-- What `frameOut` leaves unchanged. -/
@[simp] theorem State.frameOut_frame (s : State) (m : LinkId) :
    (s.frameOut m).pending = s.pending ∧ (s.frameOut m).now = s.now ∧ (s.frameOut m).window = s.window
      ∧ (s.frameOut m).store = s.store ∧ (s.frameOut m).groups = s.groups ∧ (s.frameOut m).port = s.port
      ∧ (s.frameOut m).chain = s.chain ∧ (s.frameOut m).notices = s.notices
      ∧ (s.frameOut m).members = s.members ∧ (s.frameOut m).inFlight = s.inFlight := by
  simp only [State.frameOut]
  simp

/-- What `settleOutstanding` leaves unchanged. -/
@[simp] theorem State.settleOutstanding_frame (s : State) (m : LinkId) (o : Outstanding) :
    (s.settleOutstanding m o).pending = s.pending ∧ (s.settleOutstanding m o).now = s.now
      ∧ (s.settleOutstanding m o).window = s.window ∧ (s.settleOutstanding m o).store = s.store
      ∧ (s.settleOutstanding m o).groups = s.groups ∧ (s.settleOutstanding m o).port = s.port
      ∧ (s.settleOutstanding m o).chain = s.chain ∧ (s.settleOutstanding m o).notices = s.notices
      ∧ (s.settleOutstanding m o).members = s.members ∧ (s.settleOutstanding m o).inFlight = s.inFlight := by
  simp only [State.settleOutstanding]
  simp

/-- What `matchAck` leaves unchanged. -/
@[simp] theorem State.matchAck_frame (s : State) (m : LinkId) (g : GroupId) (seq : Seq) :
    (s.matchAck m g seq).pending = s.pending ∧ (s.matchAck m g seq).now = s.now
      ∧ (s.matchAck m g seq).window = s.window ∧ (s.matchAck m g seq).store = s.store
      ∧ (s.matchAck m g seq).groups = s.groups ∧ (s.matchAck m g seq).port.run = s.port.run
      ∧ (s.matchAck m g seq).port.current = s.port.current ∧ (s.matchAck m g seq).chain = s.chain
      ∧ (s.matchAck m g seq).members = s.members ∧ (s.matchAck m g seq).notices.mirrorBase = s.notices.mirrorBase
      ∧ (s.matchAck m g seq).notices.mirrorState = s.notices.mirrorState := by
  simp only [State.matchAck]
  (repeat' split) <;> simp

/-- What `takeAckFrame` leaves unchanged. -/
@[simp] theorem State.takeAckFrame_frame (s : State) (m : LinkId) (f : Frame) :
    (s.takeAckFrame m f).pending = s.pending ∧ (s.takeAckFrame m f).now = s.now
      ∧ (s.takeAckFrame m f).window = s.window ∧ (s.takeAckFrame m f).store = s.store
      ∧ (s.takeAckFrame m f).groups = s.groups ∧ (s.takeAckFrame m f).port.run = s.port.run
      ∧ (s.takeAckFrame m f).port.current = s.port.current ∧ (s.takeAckFrame m f).chain = s.chain
      ∧ (s.takeAckFrame m f).members = s.members ∧ (s.takeAckFrame m f).notices.mirrorBase = s.notices.mirrorBase
      ∧ (s.takeAckFrame m f).notices.mirrorState = s.notices.mirrorState := by
  simp only [State.takeAckFrame]
  (repeat' split) <;> simp

/-- What `takeNackFrame` leaves unchanged. -/
@[simp] theorem State.takeNackFrame_frame (s : State) (m : LinkId) (f : Frame) :
    (s.takeNackFrame m f).pending = s.pending ∧ (s.takeNackFrame m f).now = s.now
      ∧ (s.takeNackFrame m f).window = s.window ∧ (s.takeNackFrame m f).store = s.store
      ∧ (s.takeNackFrame m f).groups = s.groups ∧ (s.takeNackFrame m f).port.run = s.port.run
      ∧ (s.takeNackFrame m f).port.current = s.port.current ∧ (s.takeNackFrame m f).chain = s.chain
      ∧ (s.takeNackFrame m f).members = s.members ∧ (s.takeNackFrame m f).notices.mirrorBase = s.notices.mirrorBase
      ∧ (s.takeNackFrame m f).notices.mirrorState = s.notices.mirrorState := by
  simp only [State.takeNackFrame]
  (repeat' split) <;> simp

/-- What `ackExpired` leaves unchanged. -/
@[simp] theorem State.ackExpired_frame (s : State) (m : LinkId) (g : GroupId) (seq : Seq) :
    (s.ackExpired m g seq).pending = s.pending ∧ (s.ackExpired m g seq).window = s.window
      ∧ (s.ackExpired m g seq).store = s.store ∧ (s.ackExpired m g seq).groups = s.groups
      ∧ (s.ackExpired m g seq).port = s.port ∧ (s.ackExpired m g seq).chain = s.chain
      ∧ (s.ackExpired m g seq).notices = s.notices ∧ (s.ackExpired m g seq).members = s.members := by
  simp only [State.ackExpired]
  (repeat' split) <;> simp

/-- What `releaseGate` leaves unchanged. -/
@[simp] theorem State.releaseGate_frame (s : State) (m : LinkId) (g : GroupId) :
    (s.releaseGate m g).pending = s.pending ∧ (s.releaseGate m g).now = s.now
      ∧ (s.releaseGate m g).window = s.window ∧ (s.releaseGate m g).store = s.store
      ∧ (s.releaseGate m g).groups = s.groups ∧ (s.releaseGate m g).port = s.port
      ∧ (s.releaseGate m g).chain = s.chain ∧ (s.releaseGate m g).notices = s.notices
      ∧ (s.releaseGate m g).members = s.members ∧ (s.releaseGate m g).inFlight = s.inFlight := by
  simp only [State.releaseGate]
  simp

/-- What `closeGate` leaves unchanged. -/
@[simp] theorem State.closeGate_frame (s : State) (m : LinkId) (g : GroupId) :
    (s.closeGate m g).pending = s.pending ∧ (s.closeGate m g).now = s.now
      ∧ (s.closeGate m g).window = s.window ∧ (s.closeGate m g).store = s.store
      ∧ (s.closeGate m g).groups = s.groups ∧ (s.closeGate m g).port = s.port
      ∧ (s.closeGate m g).chain = s.chain ∧ (s.closeGate m g).notices = s.notices
      ∧ (s.closeGate m g).members = s.members ∧ (s.closeGate m g).inFlight = s.inFlight := by
  simp only [State.closeGate]
  (repeat' split) <;> simp

/-- What `epochExpired` leaves unchanged. -/
@[simp] theorem State.epochExpired_frame (s : State) (m : LinkId) (g : GroupId) :
    (s.epochExpired m g).pending = s.pending ∧ (s.epochExpired m g).window = s.window
      ∧ (s.epochExpired m g).store = s.store ∧ (s.epochExpired m g).groups = s.groups
      ∧ (s.epochExpired m g).port = s.port ∧ (s.epochExpired m g).chain = s.chain
      ∧ (s.epochExpired m g).notices = s.notices ∧ (s.epochExpired m g).members = s.members := by
  simp only [State.epochExpired]
  (repeat' split) <;> simp

/-- What `takeEpochAck` leaves unchanged. -/
@[simp] theorem State.takeEpochAck_frame (s : State) (m : LinkId) (f : Frame) :
    (s.takeEpochAck m f).pending = s.pending ∧ (s.takeEpochAck m f).now = s.now
      ∧ (s.takeEpochAck m f).window = s.window ∧ (s.takeEpochAck m f).store = s.store
      ∧ (s.takeEpochAck m f).groups = s.groups ∧ (s.takeEpochAck m f).port = s.port
      ∧ (s.takeEpochAck m f).chain = s.chain ∧ (s.takeEpochAck m f).notices = s.notices
      ∧ (s.takeEpochAck m f).members = s.members ∧ (s.takeEpochAck m f).inFlight = s.inFlight := by
  simp only [State.takeEpochAck]
  (repeat' split) <;> simp

/-- What `receiveHelloReply` leaves unchanged. -/
@[simp] theorem State.receiveHelloReply_frame (s : State) (m : LinkId) (f : Frame) :
    (s.receiveHelloReply m f).pending = s.pending ∧ (s.receiveHelloReply m f).now = s.now
      ∧ (s.receiveHelloReply m f).window = s.window ∧ (s.receiveHelloReply m f).store = s.store
      ∧ (s.receiveHelloReply m f).groups = s.groups ∧ (s.receiveHelloReply m f).port.run = s.port.run
      ∧ (s.receiveHelloReply m f).port.current = s.port.current ∧ (s.receiveHelloReply m f).chain = s.chain
      ∧ (s.receiveHelloReply m f).members = s.members ∧ (s.receiveHelloReply m f).inFlight = s.inFlight
      ∧ (s.receiveHelloReply m f).notices.mirrorBase = s.notices.mirrorBase
      ∧ (s.receiveHelloReply m f).notices.mirrorState = s.notices.mirrorState := by
  simp only [State.receiveHelloReply, State.receive]
  (repeat' split) <;> simp

/-- What `receiveAck` leaves unchanged. -/
@[simp] theorem State.receiveAck_frame (s : State) (m : LinkId) (f : Frame) :
    (s.receiveAck m f).pending = s.pending ∧ (s.receiveAck m f).now = s.now ∧ (s.receiveAck m f).window = s.window
      ∧ (s.receiveAck m f).store = s.store ∧ (s.receiveAck m f).groups = s.groups
      ∧ (s.receiveAck m f).port.run = s.port.run ∧ (s.receiveAck m f).port.current = s.port.current
      ∧ (s.receiveAck m f).chain = s.chain ∧ (s.receiveAck m f).members = s.members
      ∧ (s.receiveAck m f).notices.mirrorBase = s.notices.mirrorBase
      ∧ (s.receiveAck m f).notices.mirrorState = s.notices.mirrorState := by
  simp only [State.receiveAck, State.receiveUp, State.receive]
  (repeat' split) <;> simp

/-- What `receiveNack` leaves unchanged. -/
@[simp] theorem State.receiveNack_frame (s : State) (m : LinkId) (f : Frame) :
    (s.receiveNack m f).pending = s.pending ∧ (s.receiveNack m f).now = s.now
      ∧ (s.receiveNack m f).window = s.window ∧ (s.receiveNack m f).store = s.store
      ∧ (s.receiveNack m f).groups = s.groups ∧ (s.receiveNack m f).port.run = s.port.run
      ∧ (s.receiveNack m f).port.current = s.port.current ∧ (s.receiveNack m f).chain = s.chain
      ∧ (s.receiveNack m f).members = s.members ∧ (s.receiveNack m f).notices.mirrorBase = s.notices.mirrorBase
      ∧ (s.receiveNack m f).notices.mirrorState = s.notices.mirrorState := by
  simp only [State.receiveNack, State.receiveUp, State.receive]
  (repeat' split) <;> simp

/-- What `receiveEpochAck` leaves unchanged. -/
@[simp] theorem State.receiveEpochAck_frame (s : State) (m : LinkId) (f : Frame) :
    (s.receiveEpochAck m f).pending = s.pending ∧ (s.receiveEpochAck m f).now = s.now
      ∧ (s.receiveEpochAck m f).window = s.window ∧ (s.receiveEpochAck m f).store = s.store
      ∧ (s.receiveEpochAck m f).groups = s.groups ∧ (s.receiveEpochAck m f).port.run = s.port.run
      ∧ (s.receiveEpochAck m f).port.current = s.port.current ∧ (s.receiveEpochAck m f).chain = s.chain
      ∧ (s.receiveEpochAck m f).members = s.members ∧ (s.receiveEpochAck m f).inFlight = s.inFlight
      ∧ (s.receiveEpochAck m f).notices.mirrorBase = s.notices.mirrorBase
      ∧ (s.receiveEpochAck m f).notices.mirrorState = s.notices.mirrorState := by
  simp only [State.receiveEpochAck, State.receiveUp, State.receive]
  (repeat' split) <;> simp

/-- What `receiveRejoinReply` leaves unchanged. -/
@[simp] theorem State.receiveRejoinReply_frame (s : State) (m : LinkId) (f : Frame) :
    (s.receiveRejoinReply m f).pending = s.pending ∧ (s.receiveRejoinReply m f).now = s.now
      ∧ (s.receiveRejoinReply m f).window = s.window ∧ (s.receiveRejoinReply m f).store = s.store
      ∧ (s.receiveRejoinReply m f).chain.pendingPosts = s.chain.pendingPosts
      ∧ (s.receiveRejoinReply m f).notices.mirrorBase = s.notices.mirrorBase
      ∧ (s.receiveRejoinReply m f).notices.mirrorState = s.notices.mirrorState := by
  simp only [State.receiveRejoinReply, State.receiveUp, State.receive]
  (repeat' split) <;> simp

/-- What `receiveNoteReply` leaves unchanged. -/
@[simp] theorem State.receiveNoteReply_frame (s : State) (m : LinkId) (f : Frame) :
    (s.receiveNoteReply m f).pending = s.pending ∧ (s.receiveNoteReply m f).now = s.now
      ∧ (s.receiveNoteReply m f).window = s.window ∧ (s.receiveNoteReply m f).store = s.store
      ∧ (s.receiveNoteReply m f).groups = s.groups ∧ (s.receiveNoteReply m f).members = s.members
      ∧ (s.receiveNoteReply m f).inFlight = s.inFlight
      ∧ (s.receiveNoteReply m f).chain.pendingPosts = s.chain.pendingPosts
      ∧ (s.receiveNoteReply m f).notices.mirrorBase = s.notices.mirrorBase
      ∧ (s.receiveNoteReply m f).notices.mirrorState = s.notices.mirrorState := by
  simp only [State.receiveNoteReply, State.receiveUp, State.receive]
  (repeat' split) <;> simp

/-- What `receiveUnheeded` leaves unchanged. -/
@[simp] theorem State.receiveUnheeded_frame (s : State) (m : LinkId) (f : Frame) :
    (s.receiveUnheeded m f).pending = s.pending ∧ (s.receiveUnheeded m f).now = s.now
      ∧ (s.receiveUnheeded m f).window = s.window ∧ (s.receiveUnheeded m f).store = s.store
      ∧ (s.receiveUnheeded m f).groups = s.groups ∧ (s.receiveUnheeded m f).port.run = s.port.run
      ∧ (s.receiveUnheeded m f).port.current = s.port.current ∧ (s.receiveUnheeded m f).chain = s.chain
      ∧ (s.receiveUnheeded m f).members = s.members ∧ (s.receiveUnheeded m f).inFlight = s.inFlight
      ∧ (s.receiveUnheeded m f).notices.mirrorBase = s.notices.mirrorBase
      ∧ (s.receiveUnheeded m f).notices.mirrorState = s.notices.mirrorState := by
  simp only [State.receiveUnheeded, State.receiveUp, State.receive]
  (repeat' split) <;> simp

/-- What `haltLinks` leaves unchanged. -/
@[simp] theorem State.haltLinks_frame (s : State) :
    s.haltLinks.pending = s.pending ∧ s.haltLinks.now = s.now ∧ s.haltLinks.window = s.window
      ∧ s.haltLinks.store = s.store ∧ s.haltLinks.groups = s.groups ∧ s.haltLinks.port = s.port
      ∧ s.haltLinks.chain = s.chain ∧ s.haltLinks.notices = s.notices ∧ s.haltLinks.members = s.members
      ∧ s.haltLinks.inFlight = s.inFlight := by
  simp only [State.haltLinks]
  simp

end Sys2Proof.Machine
end

