-- ==== Sys2Proof/Laws/FramesEnd.lean ====
section
/-! SUPPORT. What each operation of the mirror, the orders, the commands and the end of an event leaves unchanged. -/

namespace Sys2Proof.Machine

/-- What `mirrorFault` leaves unchanged. -/
@[simp] theorem State.mirrorFault_frame (s : State) :
    s.mirrorFault.pending = s.pending ∧ s.mirrorFault.now = s.now ∧ s.mirrorFault.window = s.window
      ∧ s.mirrorFault.store = s.store ∧ s.mirrorFault.groups = s.groups ∧ s.mirrorFault.members = s.members
      ∧ s.mirrorFault.links = s.links ∧ s.mirrorFault.inFlight = s.inFlight ∧ s.mirrorFault.chain = s.chain
      ∧ s.mirrorFault.notices.mirrorBase = s.notices.mirrorBase := by
  simp only [State.mirrorFault]
  simp

/-- What `askMirror` leaves unchanged. -/
@[simp] theorem State.askMirror_frame (s : State) (r : MemRequest) :
    (s.askMirror r).pending = s.pending ∧ (s.askMirror r).now = s.now ∧ (s.askMirror r).window = s.window
      ∧ (s.askMirror r).store = s.store ∧ (s.askMirror r).groups = s.groups
      ∧ (s.askMirror r).members = s.members ∧ (s.askMirror r).links = s.links
      ∧ (s.askMirror r).inFlight = s.inFlight ∧ (s.askMirror r).chain = s.chain
      ∧ (s.askMirror r).notices.mirrorBase = s.notices.mirrorBase := by
  simp only [State.askMirror]
  (repeat' split) <;> simp

/-- What `beginMirror` leaves unchanged. -/
@[simp] theorem State.beginMirror_frame (s : State) :
    s.beginMirror.pending = s.pending ∧ s.beginMirror.now = s.now ∧ s.beginMirror.window = s.window
      ∧ s.beginMirror.store = s.store ∧ s.beginMirror.groups = s.groups ∧ s.beginMirror.members = s.members
      ∧ s.beginMirror.links = s.links ∧ s.beginMirror.inFlight = s.inFlight ∧ s.beginMirror.chain = s.chain
      ∧ s.beginMirror.notices.mirrorBase = s.notices.mirrorBase := by
  simp only [State.beginMirror]
  (repeat' split) <;> simp

/-- What `leadingWritten` leaves unchanged. -/
@[simp] theorem State.leadingWritten_frame (s : State) :
    s.leadingWritten.pending = s.pending ∧ s.leadingWritten.now = s.now
      ∧ s.leadingWritten.window = s.window ∧ s.leadingWritten.store = s.store
      ∧ s.leadingWritten.groups = s.groups ∧ s.leadingWritten.members = s.members
      ∧ s.leadingWritten.links = s.links ∧ s.leadingWritten.inFlight = s.inFlight
      ∧ s.leadingWritten.chain = s.chain ∧ s.leadingWritten.notices.mirrorBase = s.notices.mirrorBase := by
  simp only [State.leadingWritten, State.mirrorStage]
  (repeat' split) <;> simp

/-- What `bodyWritten` leaves unchanged. -/
@[simp] theorem State.bodyWritten_frame (s : State) :
    s.bodyWritten.pending = s.pending ∧ s.bodyWritten.now = s.now ∧ s.bodyWritten.window = s.window
      ∧ s.bodyWritten.store = s.store ∧ s.bodyWritten.groups = s.groups ∧ s.bodyWritten.members = s.members
      ∧ s.bodyWritten.links = s.links ∧ s.bodyWritten.inFlight = s.inFlight ∧ s.bodyWritten.chain = s.chain
      ∧ s.bodyWritten.notices.mirrorBase = s.notices.mirrorBase := by
  simp only [State.bodyWritten, State.mirrorStage]
  (repeat' split) <;> simp

/-- What `trailingWritten` leaves unchanged. -/
@[simp] theorem State.trailingWritten_frame (s : State) :
    s.trailingWritten.pending = s.pending ∧ s.trailingWritten.now = s.now
      ∧ s.trailingWritten.window = s.window ∧ s.trailingWritten.store = s.store
      ∧ s.trailingWritten.groups = s.groups ∧ s.trailingWritten.members = s.members
      ∧ s.trailingWritten.links = s.links ∧ s.trailingWritten.inFlight = s.inFlight
      ∧ s.trailingWritten.chain = s.chain ∧ s.trailingWritten.notices.mirrorBase = s.notices.mirrorBase
      ∧ s.trailingWritten.notices.mirrorState = s.notices.mirrorState := by
  simp only [State.trailingWritten, State.mirrorStage]
  (repeat' split) <;> simp

/-- What `mirrorError` leaves unchanged. -/
@[simp] theorem State.mirrorError_frame (s : State) :
    s.mirrorError.pending = s.pending ∧ s.mirrorError.now = s.now ∧ s.mirrorError.window = s.window
      ∧ s.mirrorError.store = s.store ∧ s.mirrorError.groups = s.groups ∧ s.mirrorError.members = s.members
      ∧ s.mirrorError.links = s.links ∧ s.mirrorError.inFlight = s.inFlight ∧ s.mirrorError.chain = s.chain
      ∧ s.mirrorError.notices.mirrorBase = s.notices.mirrorBase := by
  simp only [State.mirrorError]
  (repeat' split) <;> simp

/-- What `intervalExpired` leaves unchanged. -/
@[simp] theorem State.intervalExpired_frame (s : State) :
    s.intervalExpired.pending = s.pending ∧ s.intervalExpired.window = s.window
      ∧ s.intervalExpired.store = s.store ∧ s.intervalExpired.groups = s.groups
      ∧ s.intervalExpired.members = s.members ∧ s.intervalExpired.links = s.links
      ∧ s.intervalExpired.inFlight = s.inFlight ∧ s.intervalExpired.chain = s.chain
      ∧ s.intervalExpired.port = s.port ∧ s.intervalExpired.notices.mirrorBase = s.notices.mirrorBase
      ∧ s.intervalExpired.notices.mirrorState = s.notices.mirrorState := by
  simp only [State.intervalExpired]
  (repeat' split) <;> simp

/-- What `abandonMirror` leaves unchanged. -/
@[simp] theorem State.abandonMirror_frame (s : State) :
    s.abandonMirror.pending = s.pending ∧ s.abandonMirror.now = s.now ∧ s.abandonMirror.window = s.window
      ∧ s.abandonMirror.store = s.store ∧ s.abandonMirror.groups = s.groups
      ∧ s.abandonMirror.members = s.members ∧ s.abandonMirror.links = s.links
      ∧ s.abandonMirror.inFlight = s.inFlight ∧ s.abandonMirror.chain = s.chain
      ∧ s.abandonMirror.notices.mirrorBase = s.notices.mirrorBase
      ∧ s.abandonMirror.notices.mirrorState = s.notices.mirrorState := by
  simp only [State.abandonMirror]
  simp

/-- What `markChanges` leaves unchanged. -/
@[simp] theorem State.markChanges_frame (before s : State) :
    (State.markChanges before s).pending = s.pending ∧ (State.markChanges before s).now = s.now
      ∧ (State.markChanges before s).window = s.window ∧ (State.markChanges before s).store = s.store
      ∧ (State.markChanges before s).groups = s.groups ∧ (State.markChanges before s).members = s.members
      ∧ (State.markChanges before s).links = s.links ∧ (State.markChanges before s).inFlight = s.inFlight
      ∧ (State.markChanges before s).chain = s.chain ∧ (State.markChanges before s).port = s.port
      ∧ (State.markChanges before s).notices.mirrorBase = s.notices.mirrorBase
      ∧ (State.markChanges before s).notices.mirrorState = s.notices.mirrorState := by
  simp only [State.markChanges]
  (repeat' split) <;> simp

/-- What `arbitrate` leaves unchanged. -/
@[simp] theorem State.arbitrate_frame (s : State) :
    s.arbitrate.pending = s.pending ∧ s.arbitrate.now = s.now ∧ s.arbitrate.window = s.window
      ∧ s.arbitrate.store = s.store ∧ s.arbitrate.groups = s.groups ∧ s.arbitrate.members = s.members
      ∧ s.arbitrate.links = s.links ∧ s.arbitrate.inFlight = s.inFlight ∧ s.arbitrate.chain = s.chain
      ∧ s.arbitrate.notices = s.notices := by
  simp only [State.arbitrate]
  simp

/-- What `finish` leaves unchanged. -/
@[simp] theorem State.finish_frame (before s : State) :
    (State.finish before s).pending = s.pending ∧ (State.finish before s).now = s.now
      ∧ (State.finish before s).window = s.window ∧ (State.finish before s).store = s.store
      ∧ (State.finish before s).groups = s.groups ∧ (State.finish before s).members = s.members
      ∧ (State.finish before s).inFlight = s.inFlight ∧ (State.finish before s).chain = s.chain
      ∧ (State.finish before s).notices.mirrorBase = s.notices.mirrorBase := by
  simp only [State.finish]
  simp

/-- What `takeSetup` leaves unchanged. -/
@[simp] theorem State.takeSetup_frame (s : State) (f : SetupFields) :
    (s.takeSetup f).pending = s.pending ∧ (s.takeSetup f).now = s.now
      ∧ (s.takeSetup f).chain.pendingPosts = s.chain.pendingPosts ∧ (s.takeSetup f).window = s.window
      ∧ (s.takeSetup f).store = s.store ∧ (s.takeSetup f).groups = s.groups
      ∧ (s.takeSetup f).members = s.members ∧ (s.takeSetup f).inFlight = s.inFlight := by
  simp only [State.takeSetup]
  simp

/-- What `dispatchSetup` leaves unchanged. -/
@[simp] theorem State.dispatchSetup_frame (s : State) (order : Addr) (f : SetupFields) :
    (s.dispatchSetup order f).pending = s.pending ∧ (s.dispatchSetup order f).now = s.now
      ∧ (s.dispatchSetup order f).chain.pendingPosts = s.chain.pendingPosts
      ∧ (s.dispatchSetup order f).window = s.window ∧ (s.dispatchSetup order f).store = s.store
      ∧ (s.dispatchSetup order f).groups = s.groups ∧ (s.dispatchSetup order f).members = s.members
      ∧ (s.dispatchSetup order f).inFlight = s.inFlight := by
  simp only [State.dispatchSetup]
  (repeat' split) <;> simp

/-- What `takeGroupSet` leaves unchanged. -/
@[simp] theorem State.takeGroupSet_frame (s : State) (g : GroupId) (f : GroupSetFields) :
    (s.takeGroupSet g f).pending = s.pending ∧ (s.takeGroupSet g f).now = s.now
      ∧ (s.takeGroupSet g f).notices.mirrorBase = s.notices.mirrorBase
      ∧ (s.takeGroupSet g f).notices.mirrorState = s.notices.mirrorState ∧ (s.takeGroupSet g f).window = s.window
      ∧ (s.takeGroupSet g f).store = s.store ∧ (s.takeGroupSet g f).members = s.members
      ∧ (s.takeGroupSet g f).links = s.links ∧ (s.takeGroupSet g f).chain = s.chain
      ∧ (s.takeGroupSet g f).port.run = s.port.run ∧ (s.takeGroupSet g f).port.current = s.port.current := by
  simp only [State.takeGroupSet]
  (repeat' split) <;> simp

/-- What `dispatchGroupSet` leaves unchanged. -/
@[simp] theorem State.dispatchGroupSet_frame (s : State) (order : Addr) (f : GroupSetFields) :
    (s.dispatchGroupSet order f).pending = s.pending ∧ (s.dispatchGroupSet order f).now = s.now
      ∧ (s.dispatchGroupSet order f).chain.pendingPosts = s.chain.pendingPosts
      ∧ (s.dispatchGroupSet order f).notices.mirrorBase = s.notices.mirrorBase
      ∧ (s.dispatchGroupSet order f).notices.mirrorState = s.notices.mirrorState
      ∧ (s.dispatchGroupSet order f).window = s.window ∧ (s.dispatchGroupSet order f).store = s.store
      ∧ (s.dispatchGroupSet order f).members = s.members ∧ (s.dispatchGroupSet order f).links = s.links := by
  simp only [State.dispatchGroupSet]
  (repeat' split) <;> simp

/-- What `takeBind` leaves unchanged. -/
@[simp] theorem State.takeBind_frame (s : State) (m : LinkId) (tag : NodeTag) :
    (s.takeBind m tag).pending = s.pending ∧ (s.takeBind m tag).now = s.now
      ∧ (s.takeBind m tag).notices.mirrorBase = s.notices.mirrorBase
      ∧ (s.takeBind m tag).notices.mirrorState = s.notices.mirrorState ∧ (s.takeBind m tag).window = s.window
      ∧ (s.takeBind m tag).store = s.store ∧ (s.takeBind m tag).groups = s.groups
      ∧ (s.takeBind m tag).members = s.members ∧ (s.takeBind m tag).inFlight = s.inFlight
      ∧ (s.takeBind m tag).chain = s.chain ∧ (s.takeBind m tag).port.run = s.port.run
      ∧ (s.takeBind m tag).port.current = s.port.current := by
  simp only [State.takeBind]
  (repeat' split) <;> simp

/-- What `dispatchBind` leaves unchanged. -/
@[simp] theorem State.dispatchBind_frame (s : State) (order : Addr) (link : Option LinkId) (tag : NodeTag) :
    (s.dispatchBind order link tag).pending = s.pending ∧ (s.dispatchBind order link tag).now = s.now
      ∧ (s.dispatchBind order link tag).chain.pendingPosts = s.chain.pendingPosts
      ∧ (s.dispatchBind order link tag).notices.mirrorBase = s.notices.mirrorBase
      ∧ (s.dispatchBind order link tag).notices.mirrorState = s.notices.mirrorState
      ∧ (s.dispatchBind order link tag).window = s.window ∧ (s.dispatchBind order link tag).store = s.store
      ∧ (s.dispatchBind order link tag).groups = s.groups ∧ (s.dispatchBind order link tag).members = s.members
      ∧ (s.dispatchBind order link tag).inFlight = s.inFlight := by
  simp only [State.dispatchBind]
  (repeat' split) <;> simp

/-- What `dispatchExclude` leaves unchanged. -/
@[simp] theorem State.dispatchExclude_frame (s : State) (order : Addr) (link : Option LinkId) :
    (s.dispatchExclude order link).pending = s.pending ∧ (s.dispatchExclude order link).now = s.now
      ∧ (s.dispatchExclude order link).chain.pendingPosts = s.chain.pendingPosts
      ∧ (s.dispatchExclude order link).notices.mirrorBase = s.notices.mirrorBase
      ∧ (s.dispatchExclude order link).notices.mirrorState = s.notices.mirrorState
      ∧ (s.dispatchExclude order link).window = s.window ∧ (s.dispatchExclude order link).store = s.store
      ∧ (s.dispatchExclude order link).groups = s.groups ∧ (s.dispatchExclude order link).links = s.links := by
  simp only [State.dispatchExclude]
  (repeat' split) <;> simp

/-- What `dispatchReadmitOrder` leaves unchanged. -/
@[simp] theorem State.dispatchReadmitOrder_frame (s : State) (order : Addr) (link : Option LinkId) (tag : BitVec 32) :
    (s.dispatchReadmitOrder order link tag).pending = s.pending
      ∧ (s.dispatchReadmitOrder order link tag).now = s.now
      ∧ (s.dispatchReadmitOrder order link tag).chain.pendingPosts = s.chain.pendingPosts
      ∧ (s.dispatchReadmitOrder order link tag).notices.mirrorBase = s.notices.mirrorBase
      ∧ (s.dispatchReadmitOrder order link tag).notices.mirrorState = s.notices.mirrorState
      ∧ (s.dispatchReadmitOrder order link tag).window = s.window
      ∧ (s.dispatchReadmitOrder order link tag).store = s.store := by
  simp only [State.dispatchReadmitOrder]
  (repeat' split) <;> simp

/-- What `takeSlot` leaves unchanged. -/
@[simp] theorem State.takeSlot_frame (s : State) (i : SlotId) (g : GroupId) (order : Addr) (r : Record) :
    (s.takeSlot i g order r).pending = s.pending ∧ (s.takeSlot i g order r).now = s.now
      ∧ (s.takeSlot i g order r).store.cells = s.store.cells
      ∧ (s.takeSlot i g order r).chain.pendingPosts = s.chain.pendingPosts
      ∧ (s.takeSlot i g order r).members = s.members ∧ (s.takeSlot i g order r).links = s.links
      ∧ (s.takeSlot i g order r).inFlight = s.inFlight ∧ (s.takeSlot i g order r).notices = s.notices := by
  simp only [State.takeSlot]
  simp

/-- What `dispatchCommit` leaves unchanged. -/
@[simp] theorem State.dispatchCommit_frame (s : State) (order : Addr) (r : Record) :
    (s.dispatchCommit order r).pending = s.pending ∧ (s.dispatchCommit order r).now = s.now
      ∧ (s.dispatchCommit order r).store.cells = s.store.cells
      ∧ (s.dispatchCommit order r).chain.pendingPosts = s.chain.pendingPosts
      ∧ (s.dispatchCommit order r).members = s.members ∧ (s.dispatchCommit order r).links = s.links
      ∧ (s.dispatchCommit order r).inFlight = s.inFlight ∧ (s.dispatchCommit order r).notices = s.notices := by
  simp only [State.dispatchCommit]
  (repeat' split) <;> simp

/-- What `reportBarrier` leaves unchanged. -/
@[simp] theorem State.reportBarrier_frame (s : State) (b : HeldBarrier) :
    (s.reportBarrier b).pending = s.pending ∧ (s.reportBarrier b).now = s.now
      ∧ (s.reportBarrier b).chain.pendingPosts = s.chain.pendingPosts ∧ (s.reportBarrier b).window = s.window
      ∧ (s.reportBarrier b).store = s.store ∧ (s.reportBarrier b).groups = s.groups
      ∧ (s.reportBarrier b).members = s.members ∧ (s.reportBarrier b).links = s.links
      ∧ (s.reportBarrier b).inFlight = s.inFlight ∧ (s.reportBarrier b).notices = s.notices := by
  simp only [State.reportBarrier]
  simp

/-- What `dispatchBarrier` leaves unchanged. -/
@[simp] theorem State.dispatchBarrier_frame (s : State) (order : Addr) (target : Option BarrierTarget) :
    (s.dispatchBarrier order target).pending = s.pending ∧ (s.dispatchBarrier order target).now = s.now
      ∧ (s.dispatchBarrier order target).chain.pendingPosts = s.chain.pendingPosts
      ∧ (s.dispatchBarrier order target).window = s.window ∧ (s.dispatchBarrier order target).store = s.store
      ∧ (s.dispatchBarrier order target).groups = s.groups
      ∧ (s.dispatchBarrier order target).members = s.members ∧ (s.dispatchBarrier order target).links = s.links
      ∧ (s.dispatchBarrier order target).inFlight = s.inFlight
      ∧ (s.dispatchBarrier order target).notices = s.notices := by
  simp only [State.dispatchBarrier]
  (repeat' split) <;> simp

/-- What `afterBarrier` leaves unchanged. -/
@[simp] theorem State.afterBarrier_frame (s : State) :
    s.afterBarrier.pending = s.pending ∧ s.afterBarrier.now = s.now
      ∧ s.afterBarrier.chain.pendingPosts = s.chain.pendingPosts
      ∧ s.afterBarrier.notices.mirrorBase = s.notices.mirrorBase
      ∧ s.afterBarrier.notices.mirrorState = s.notices.mirrorState ∧ s.afterBarrier.window = s.window
      ∧ s.afterBarrier.store = s.store ∧ s.afterBarrier.groups = s.groups ∧ s.afterBarrier.members = s.members
      ∧ s.afterBarrier.links = s.links ∧ s.afterBarrier.inFlight = s.inFlight := by
  simp only [State.afterBarrier]
  (repeat' split) <;> simp

/-- What `reEvaluate` leaves unchanged. -/
@[simp] theorem State.reEvaluate_frame (s : State) :
    s.reEvaluate.pending = s.pending ∧ s.reEvaluate.now = s.now
      ∧ s.reEvaluate.chain.pendingPosts = s.chain.pendingPosts
      ∧ s.reEvaluate.notices.mirrorBase = s.notices.mirrorBase
      ∧ s.reEvaluate.notices.mirrorState = s.notices.mirrorState ∧ s.reEvaluate.window = s.window
      ∧ s.reEvaluate.store = s.store ∧ s.reEvaluate.groups = s.groups ∧ s.reEvaluate.members = s.members
      ∧ s.reEvaluate.links = s.links ∧ s.reEvaluate.inFlight = s.inFlight := by
  simp only [State.reEvaluate]
  (repeat' split) <;> simp

/-- What `takeNote` leaves unchanged. -/
@[simp] theorem State.takeNote_frame (s : State) (m : LinkId) (order : Addr) (r : Record) :
    (s.takeNote m order r).pending = s.pending ∧ (s.takeNote m order r).now = s.now
      ∧ (s.takeNote m order r).window = s.window ∧ (s.takeNote m order r).store = s.store
      ∧ (s.takeNote m order r).groups = s.groups ∧ (s.takeNote m order r).members = s.members
      ∧ (s.takeNote m order r).inFlight = s.inFlight ∧ (s.takeNote m order r).chain = s.chain
      ∧ (s.takeNote m order r).port = s.port ∧ (s.takeNote m order r).notices = s.notices := by
  simp only [State.takeNote]
  simp

/-- What `dispatchNote` leaves unchanged. -/
@[simp] theorem State.dispatchNote_frame (s : State) (m : LinkId) (order : Addr) (r : Record) :
    (s.dispatchNote m order r).pending = s.pending ∧ (s.dispatchNote m order r).now = s.now
      ∧ (s.dispatchNote m order r).chain.pendingPosts = s.chain.pendingPosts
      ∧ (s.dispatchNote m order r).window = s.window ∧ (s.dispatchNote m order r).store = s.store
      ∧ (s.dispatchNote m order r).groups = s.groups ∧ (s.dispatchNote m order r).members = s.members
      ∧ (s.dispatchNote m order r).inFlight = s.inFlight ∧ (s.dispatchNote m order r).notices = s.notices := by
  simp only [State.dispatchNote]
  (repeat' split) <;> simp

/-- What `dispatch` leaves unchanged. -/
@[simp] theorem State.dispatch_frame (s : State) (order : Addr) (r : Record) :
    (s.dispatch order r).pending = s.pending ∧ (s.dispatch order r).now = s.now
      ∧ (s.dispatch order r).store.cells = s.store.cells
      ∧ (s.dispatch order r).chain.pendingPosts = s.chain.pendingPosts := by
  simp only [State.dispatch]
  (repeat' split) <;> simp

/-- What `claim` leaves unchanged. -/
@[simp] theorem State.claim_frame (s : State) :
    s.claim.pending = s.pending ∧ s.claim.now = s.now ∧ s.claim.notices.mirrorBase = s.notices.mirrorBase
      ∧ s.claim.notices.mirrorState = s.notices.mirrorState ∧ s.claim.window = s.window ∧ s.claim.store = s.store
      ∧ s.claim.groups = s.groups ∧ s.claim.members = s.members ∧ s.claim.links = s.links
      ∧ s.claim.inFlight = s.inFlight ∧ s.claim.port.run = s.port.run ∧ s.claim.port.current = s.port.current := by
  simp only [State.claim]
  (repeat' split) <;> simp

/-- What `afterDispatch` leaves unchanged. -/
@[simp] theorem State.afterDispatch_frame (s : State) :
    s.afterDispatch.pending = s.pending ∧ s.afterDispatch.now = s.now
      ∧ s.afterDispatch.chain.pendingPosts = s.chain.pendingPosts
      ∧ s.afterDispatch.notices.mirrorBase = s.notices.mirrorBase
      ∧ s.afterDispatch.notices.mirrorState = s.notices.mirrorState ∧ s.afterDispatch.window = s.window
      ∧ s.afterDispatch.store = s.store ∧ s.afterDispatch.groups = s.groups
      ∧ s.afterDispatch.members = s.members ∧ s.afterDispatch.links = s.links
      ∧ s.afterDispatch.inFlight = s.inFlight := by
  simp only [State.afterDispatch]
  (repeat' split) <;> simp

/-- What `takenDone` leaves unchanged. -/
@[simp] theorem State.takenDone_frame (s : State) (ok : Bool) :
    (s.takenDone ok).pending = s.pending ∧ (s.takenDone ok).now = s.now
      ∧ (s.takenDone ok).store.cells = s.store.cells := by
  simp only [State.takenDone, State.walkCompletion]
  (repeat' split) <;> simp

/-- What `refuseWrite` leaves unchanged. -/
@[simp] theorem State.refuseWrite_frame (s : State) :
    s.refuseWrite.pending = s.pending ∧ s.refuseWrite.now = s.now ∧ s.refuseWrite.window = s.window
      ∧ s.refuseWrite.store = s.store ∧ s.refuseWrite.groups = s.groups ∧ s.refuseWrite.members = s.members
      ∧ s.refuseWrite.links = s.links ∧ s.refuseWrite.inFlight = s.inFlight ∧ s.refuseWrite.chain = s.chain
      ∧ s.refuseWrite.port.run = s.port.run ∧ s.refuseWrite.port.current = s.port.current
      ∧ s.refuseWrite.notices.mirrorBase = s.notices.mirrorBase
      ∧ s.refuseWrite.notices.mirrorState = s.notices.mirrorState := by
  simp only [State.refuseWrite]
  simp

/-- What `writeOrigin` leaves unchanged. -/
@[simp] theorem State.writeOrigin_frame (s : State) (f : SystemPort → SystemPort) :
    (s.writeOrigin f).pending = s.pending ∧ (s.writeOrigin f).now = s.now
      ∧ (s.writeOrigin f).window = s.window ∧ (s.writeOrigin f).store = s.store
      ∧ (s.writeOrigin f).groups = s.groups ∧ (s.writeOrigin f).members = s.members
      ∧ (s.writeOrigin f).links = s.links ∧ (s.writeOrigin f).inFlight = s.inFlight
      ∧ (s.writeOrigin f).notices.mirrorBase = s.notices.mirrorBase
      ∧ (s.writeOrigin f).notices.mirrorState = s.notices.mirrorState := by
  simp only [State.writeOrigin]
  (repeat' split) <;> simp

/-- What `addPosts` leaves unchanged. -/
@[simp] theorem State.addPosts_frame (s : State) (n : Nat) :
    (s.addPosts n).pending = s.pending ∧ (s.addPosts n).now = s.now ∧ (s.addPosts n).window = s.window
      ∧ (s.addPosts n).store = s.store ∧ (s.addPosts n).groups = s.groups ∧ (s.addPosts n).members = s.members
      ∧ (s.addPosts n).links = s.links ∧ (s.addPosts n).inFlight = s.inFlight
      ∧ (s.addPosts n).notices.mirrorBase = s.notices.mirrorBase
      ∧ (s.addPosts n).notices.mirrorState = s.notices.mirrorState := by
  simp only [State.addPosts]
  (repeat' split) <;> simp

/-- What `startRun` leaves unchanged. -/
@[simp] theorem State.startRun_frame (s : State) :
    s.startRun.pending = s.pending ∧ s.startRun.now = s.now ∧ s.startRun.window = s.window
      ∧ s.startRun.store = s.store ∧ s.startRun.groups = s.groups ∧ s.startRun.members = s.members
      ∧ s.startRun.links = s.links ∧ s.startRun.inFlight = s.inFlight
      ∧ s.startRun.notices.mirrorBase = s.notices.mirrorBase
      ∧ s.startRun.notices.mirrorState = s.notices.mirrorState := by
  simp only [State.startRun]
  (repeat' split) <;> simp

/-- What `stopForQuiesce` leaves unchanged. -/
@[simp] theorem State.stopForQuiesce_frame (s : State) :
    s.stopForQuiesce.pending = s.pending ∧ s.stopForQuiesce.now = s.now
      ∧ s.stopForQuiesce.window = s.window ∧ s.stopForQuiesce.store = s.store
      ∧ s.stopForQuiesce.groups = s.groups ∧ s.stopForQuiesce.members = s.members
      ∧ s.stopForQuiesce.links = s.links ∧ s.stopForQuiesce.inFlight = s.inFlight
      ∧ s.stopForQuiesce.notices = s.notices ∧ s.stopForQuiesce.chain.pendingPosts = s.chain.pendingPosts := by
  simp only [State.stopForQuiesce]
  (repeat' split) <;> simp

/-- What `quiesceRun` leaves unchanged. -/
@[simp] theorem State.quiesceRun_frame (s : State) :
    s.quiesceRun.pending = s.pending ∧ s.quiesceRun.now = s.now ∧ s.quiesceRun.window = s.window
      ∧ s.quiesceRun.store = s.store ∧ s.quiesceRun.groups = s.groups ∧ s.quiesceRun.members = s.members
      ∧ s.quiesceRun.links = s.links ∧ s.quiesceRun.inFlight = s.inFlight
      ∧ s.quiesceRun.chain.pendingPosts = s.chain.pendingPosts
      ∧ s.quiesceRun.notices.mirrorBase = s.notices.mirrorBase
      ∧ s.quiesceRun.notices.mirrorState = s.notices.mirrorState := by
  simp only [State.quiesceRun]
  (repeat' split) <;> simp

/-- What `abandon` leaves unchanged. -/
@[simp] theorem State.abandon_frame (s : State) :
    s.abandon.pending = s.pending ∧ s.abandon.now = s.now ∧ s.abandon.store.cells = s.store.cells
      ∧ s.abandon.chain.pendingPosts = s.chain.pendingPosts
      ∧ s.abandon.notices.mirrorBase = s.notices.mirrorBase
      ∧ s.abandon.notices.mirrorState = s.notices.mirrorState := by
  simp only [State.abandon]
  simp

/-- What `haltRun` leaves unchanged. -/
@[simp] theorem State.haltRun_frame (s : State) :
    s.haltRun.pending = s.pending ∧ s.haltRun.now = s.now ∧ s.haltRun.store.cells = s.store.cells
      ∧ s.haltRun.chain.pendingPosts = s.chain.pendingPosts
      ∧ s.haltRun.notices.mirrorBase = s.notices.mirrorBase
      ∧ s.haltRun.notices.mirrorState = s.notices.mirrorState := by
  simp only [State.haltRun]
  (repeat' split) <;> simp

/-- What `softInitialize` leaves unchanged. -/
@[simp] theorem State.softInitialize_frame (s : State) :
    s.softInitialize.pending = s.pending ∧ s.softInitialize.now = s.now
      ∧ s.softInitialize.store.cells = s.store.cells := by
  simp only [State.softInitialize]
  simp

/-- What `softReset` leaves unchanged. -/
@[simp] theorem State.softReset_frame (s : State) :
    s.softReset.pending = s.pending ∧ s.softReset.now = s.now ∧ s.softReset.store.cells = s.store.cells := by
  simp only [State.softReset]
  simp

/-- What `writeRun` leaves unchanged. -/
@[simp] theorem State.writeRun_frame (s : State) (w : Word32) :
    (s.writeRun w).pending = s.pending ∧ (s.writeRun w).now = s.now
      ∧ (s.writeRun w).store.cells = s.store.cells := by
  simp only [State.writeRun]
  (repeat' split) <;> simp

/-- What `writeNotice` leaves unchanged. -/
@[simp] theorem State.writeNotice_frame (s : State) (bits : BitVec 12) :
    (s.writeNotice bits).pending = s.pending ∧ (s.writeNotice bits).now = s.now
      ∧ (s.writeNotice bits).window = s.window ∧ (s.writeNotice bits).store = s.store
      ∧ (s.writeNotice bits).groups = s.groups ∧ (s.writeNotice bits).members = s.members
      ∧ (s.writeNotice bits).links = s.links ∧ (s.writeNotice bits).inFlight = s.inFlight
      ∧ (s.writeNotice bits).chain = s.chain ∧ (s.writeNotice bits).notices.mirrorBase = s.notices.mirrorBase
      ∧ (s.writeNotice bits).notices.mirrorState = s.notices.mirrorState := by
  simp only [State.writeNotice]
  simp

/-- What `writeMask` leaves unchanged. -/
@[simp] theorem State.writeMask_frame (s : State) (bits : BitVec 12) :
    (s.writeMask bits).pending = s.pending ∧ (s.writeMask bits).now = s.now
      ∧ (s.writeMask bits).window = s.window ∧ (s.writeMask bits).store = s.store
      ∧ (s.writeMask bits).groups = s.groups ∧ (s.writeMask bits).members = s.members
      ∧ (s.writeMask bits).links = s.links ∧ (s.writeMask bits).inFlight = s.inFlight
      ∧ (s.writeMask bits).chain = s.chain ∧ (s.writeMask bits).notices.mirrorBase = s.notices.mirrorBase
      ∧ (s.writeMask bits).notices.mirrorState = s.notices.mirrorState := by
  simp only [State.writeMask]
  simp

/-- What `writeRegister` leaves unchanged. -/
@[simp] theorem State.writeRegister_frame (s : State) (offset : Nat) (w : Word32) :
    (s.writeRegister offset w).pending = s.pending ∧ (s.writeRegister offset w).now = s.now
      ∧ (s.writeRegister offset w).store.cells = s.store.cells := by
  simp only [State.writeRegister]
  (repeat' split) <;> simp

/-- What `writeWindow` leaves unchanged. -/
@[simp] theorem State.writeWindow_frame (s : State) (offset : Fin 32) (bytes : Nat) (w : Word32) :
    (s.writeWindow offset bytes w).pending = s.pending ∧ (s.writeWindow offset bytes w).now = s.now
      ∧ (s.writeWindow offset bytes w).store.cells = s.store.cells := by
  simp only [State.writeWindow]
  (repeat' split) <;> simp

/-- What `powerOn` leaves unchanged. -/
@[simp] theorem State.powerOn_frame (s : State) :
    s.powerOn.pending = s.pending ∧ s.powerOn.now = s.now := by
  simp only [State.powerOn]
  simp

/-- What `deliver` leaves unchanged. -/
@[simp] theorem State.deliver_frame (s : State) (m : LinkId) (bytes : List Byte) :
    (s.deliver m bytes).pending = s.pending ∧ (s.deliver m bytes).window = s.window
      ∧ (s.deliver m bytes).chain.pendingPosts = s.chain.pendingPosts
      ∧ (s.deliver m bytes).notices.mirrorBase = s.notices.mirrorBase
      ∧ (s.deliver m bytes).notices.mirrorState = s.notices.mirrorState ∧ (s.deliver m bytes).now = s.now := by
  simp only [State.deliver]
  (repeat' split) <;> simp

/-- What `sendDue` leaves unchanged. -/
@[simp] theorem State.sendDue_frame (s : State) (m : LinkId) :
    (s.sendDue m).pending = s.pending ∧ (s.sendDue m).window = s.window ∧ (s.sendDue m).store = s.store
      ∧ (s.sendDue m).groups = s.groups ∧ (s.sendDue m).chain.pendingPosts = s.chain.pendingPosts
      ∧ (s.sendDue m).now = s.now := by
  simp only [State.sendDue]
  (repeat' split) <;> simp

/-- What `tick` leaves unchanged. -/
@[simp] theorem State.tick_frame (s : State) :
    s.tick.pending = s.pending ∧ s.tick.window = s.window ∧ s.tick.store = s.store
      ∧ s.tick.groups = s.groups ∧ s.tick.members = s.members ∧ s.tick.links = s.links
      ∧ s.tick.inFlight = s.inFlight ∧ s.tick.chain = s.chain ∧ s.tick.port = s.port
      ∧ s.tick.notices = s.notices := by
  simp only [State.tick]
  simp

end Sys2Proof.Machine
end

