-- ==== Sys2Proof/Laws/Finish.lean ====
section
/-! SUPPORT. What the end of an event does, said once: it changes nothing but the transmitters' choices, the interrupt,
the mirror write that begins and the arbiter's requests. -/

namespace Sys2Proof.Machine

/-- Two states that differ in requests, interrupt and the mirror write's fields alone are the same otherwise. -/
theorem State.lasting_congr {s t : State} (hp : t.pending = s.pending) (hi : t.inFlight = s.inFlight)
    (hn : t.now = s.now) (hc : t.chain = s.chain) (hw : t.window = s.window) (hs : t.store = s.store)
    (hg : t.groups = s.groups) (hm : t.members = s.members) (hl : t.links = s.links)
    (hq : t.port.lasting = s.port.lasting) (hu : t.notices.lasting = s.notices.lasting) : t.lasting = s.lasting := by
  simp only [State.lasting, hp, hi, hn, hc, hw, hs, hg, hm, hl, hq, hu]

/-- The interrupt changes nothing that lasts. -/
theorem State.reconsider_lasting (s : State) : s.reconsider.lasting = s.lasting := by
  simp only [State.reconsider]
  split <;> rfl

/-- A reconsidering event changes nothing that lasts. -/
theorem State.reconsiderUnlessOn_lasting (s : State) : s.reconsiderUnlessOn.lasting = s.lasting := by
  simp only [State.reconsiderUnlessOn]
  split
  · rfl
  · exact s.reconsider_lasting

/-- Of what lasts, a notice raised changes the raw notices alone. -/
theorem State.raise_lasting (s : State) (n : Notice) :
    (s.raise n).lasting = ({ s with notices := s.notices.raise n }).lasting := by
  rw [State.raise_eq]; rfl

/-- The dirty mark changes nothing that lasts. -/
theorem State.markDirty_lasting (s : State) : s.markDirty.lasting = s.lasting := rfl

/-- The end's dirty mark changes nothing that lasts. -/
theorem State.markChanges_lasting (before s : State) : (State.markChanges before s).lasting = s.lasting := by
  simp only [State.markChanges]
  split
  · rfl
  · exact s.markDirty_lasting

/-- A request asked for changes nothing that lasts. -/
theorem State.ask_lasting (s : State) (r : MemRequest) : (s.ask r).lasting = s.lasting := by
  simp only [State.ask, State.lasting, State.modPort, SystemPort.setWaiting]
  split <;> rfl

/-- With the mirror block below 2^48, the leading write of a mirror write is not refused. -/
theorem State.leading_not_refused (s : State) (bytes : List Byte) (hb : bytes.length = 4)
    (h : s.notices.mirrorBase.toNat + 511 < Config.addressLimit) :
    (s.mirrorRequest .mirrorLeading 0 bytes).refused = false := by
  have hz : s.notices.mirrorBase + 0 = s.notices.mirrorBase := BitVec.add_zero _
  simp only [State.mirrorRequest, writeRequest, MemRequest.refused, hb, hz, Config.addressLimit,
    decide_eq_false_iff_not] at h ⊢
  omega

/-- The four bytes of the generation count. -/
theorem NoticeUnit.generationBytes_length (u : NoticeUnit) : u.generationBytes.length = 4 := rfl

/-- The mirror write that begins changes nothing that lasts. -/
theorem State.beginMirror_lasting (s : State) (h : s.mirrorSound) : s.beginMirror.lasting = s.lasting := by
  simp only [State.beginMirror]
  split
  · rename_i hd
    have hon : s.notices.mirrorState = .on := by
      simp only [NoticeUnit.writeDue, Bool.and_eq_true, beq_iff_eq] at hd
      exact hd.1.1.1
    simp only [State.askMirror]
    rw [if_neg]
    · rw [State.ask_lasting]; rfl
    · exact Bool.eq_false_iff.1
        (State.leading_not_refused _ _ (NoticeUnit.generationBytes_length _) (by simpa using h hon))
  · rfl

/-- Withdrawing and giving up requests changes nothing that lasts. -/
@[simp] theorem SystemPort.dropClass_lasting (p : SystemPort) (c : RequestClass) :
    (p.dropClass c).lasting = p.lasting := by
  simp only [SystemPort.dropClass, SystemPort.abandonCurrent]
  split
  · cases c <;> rfl
  · split <;> cases c <;> rfl

/-- Stopping the walk changes the chain reader alone of what lasts (R98, R171). -/
theorem State.stopWalk_lasting (s : State) :
    s.stopWalk.lasting = ({ s with chain := s.chain.stopWalk }).lasting := by
  simp [State.stopWalk, State.lasting, State.modChain, State.modPort]

/-- Two states that last alike, with the same links and members, let the transmitters choose alike. -/
theorem State.chooseAll_lasting {s t : State} (h : s.lasting = t.lasting) :
    s.chooseAll.lasting = t.chooseAll.lasting := by
  have hl : s.lasting.links = t.lasting.links := congrArg State.links h
  have hm : s.lasting.members = t.lasting.members := congrArg State.members h
  have key : ∀ u : State, u.chooseAll.lasting
      = { u.lasting with links := Vector.ofFn fun m : LinkId => u.links[m.val].choose u.members[m.val].health } :=
    fun _ => rfl
  rw [key, key, h, show s.links = t.links from hl, show s.members = t.members from hm]

/-- The arbiter changes nothing that lasts. -/
theorem State.arbitrate_lasting (s : State) : s.arbitrate.lasting = s.lasting := by
  simp only [State.arbitrate, State.modPort, State.lasting, SystemPort.arbitrate]
  split
  · rfl
  · split <;> rfl

/-- The transmitters' choices leave the mirror's settings. -/
theorem State.chooseAll_notices (s : State) : s.chooseAll.notices = s.notices := rfl

/-- What the end of an event does, but for the interrupt, the mirror write and the arbiter, is to let the transmitters
choose. -/
theorem State.finish_lasting (before s : State) (h : s.mirrorSound) :
    (State.finish before s).lasting = s.chooseAll.lasting := by
  simp only [State.finish]
  rw [State.arbitrate_lasting, State.beginMirror_lasting, State.markChanges_lasting]
  intro hon
  simp only [State.markChanges_frame] at hon ⊢
  exact h hon

/-- The links at the end of an event are those the transmitters' choices leave. -/
@[simp] theorem State.finish_links (before s : State) : (State.finish before s).links = s.chooseAll.links := by
  simp [State.finish]

/-- The end of an event leaves a link but for what it is building. -/
theorem State.chooseAll_link (s : State) (m : LinkId) :
    s.chooseAll.link m = (s.link m).choose (s.member m).health := by
  simp [State.link, State.chooseAll]

/-- A choice changes what is being built alone. -/
theorem LinkEngine.choose_build (l : LinkEngine) (h : Health) : { l.choose h with build := l.build } = l := by
  simp only [LinkEngine.choose]
  split <;> rfl

/-- The arbiter issues a waiting request or leaves it waiting. -/
theorem SystemPort.arbitrate_asks (p : SystemPort) (c : RequestClass) (r : MemRequest)
    (h : p.waiting c = some r) : p.arbitrate.current = some r ∨ p.arbitrate.waiting c = some r := by
  simp only [SystemPort.arbitrate]
  split
  · exact .inr h
  · cases c <;> simp only [SystemPort.waiting] at h ⊢ <;> split <;> simp_all

/-- The interrupt leaves the waiting requests. -/
theorem State.reconsider_waiting (s : State) (c : RequestClass) :
    s.reconsider.port.waiting c = s.port.waiting c := by
  simp only [State.reconsider]
  split
  · cases c <;> rfl
  · rfl

/-- A notice raised leaves the waiting requests. -/
theorem State.raise_waiting (s : State) (n : Notice) (c : RequestClass) :
    (s.raise n).port.waiting c = s.port.waiting c := by
  rw [State.raise_eq]; cases c <;> rfl

/-- The mirror write that begins leaves the waiting requests of the other classes. -/
theorem State.beginMirror_waiting (s : State) (c : RequestClass) (h : c ≠ .mirror) :
    s.beginMirror.port.waiting c = s.port.waiting c := by
  simp only [State.beginMirror, State.askMirror, State.mirrorFault]
  split
  · split
    · rw [State.reconsider_waiting, State.raise_waiting]; rfl
    · cases c <;> first | rfl | exact absurd rfl h
  · rfl

/-- A request of the report, walk or payload class that waits before the end of an event is asked for after it. -/
theorem State.finish_asks (before s : State) (r : MemRequest) (h : s.port.waiting r.kind.cls = some r)
    (hc : r.kind.cls ≠ .mirror) : (State.finish before s).asks r := by
  have hb : (State.markChanges before s.chooseAll).beginMirror.port.waiting r.kind.cls = some r := by
    rw [State.beginMirror_waiting _ _ hc, (State.markChanges_frame before s.chooseAll).2.2.2.2.2.2.2.2.2.1]
    exact h
  exact SystemPort.arbitrate_asks _ _ _ hb

/-! ### Completion -/

/-- A state with the mirror's settings of a sound one is sound. -/
theorem State.mirrorSound_of_eq {s v : State} (h : s.mirrorSound) (hb : v.notices.mirrorBase = s.notices.mirrorBase)
    (hm : v.notices.mirrorState = s.notices.mirrorState) : v.mirrorSound := by
  simpa only [State.mirrorSound, hb, hm] using h

/-- A command that ends its event at `v` completes at any `u` that is `v` but for requests, interrupt and mirror
write. -/
theorem completes_of {c : Instr} {s u : State} (v : State) (he : exec c s = .next (State.finish s v))
    (hm : v.mirrorSound) (hu : v.chooseAll.lasting = u.chooseAll.lasting) : Completes c s u :=
  ⟨_, he, (State.finish_lasting s v hm).trans hu⟩

/-- A command completes at the very state its event ends at. -/
theorem completes_at {c : Instr} {s u : State} (hs : s.mirrorSound) (he : exec c s = .next (State.finish s u))
    (hb : u.notices.mirrorBase = s.notices.mirrorBase) (hm : u.notices.mirrorState = s.notices.mirrorState) :
    Completes c s u :=
  completes_of u he (State.mirrorSound_of_eq hs hb hm) rfl

/-- The same for a command that asks for a request. -/
theorem completesAsking_of {c : Instr} {s u : State} {r : MemRequest} (v : State)
    (he : exec c s = .next (State.finish s v)) (hm : v.mirrorSound)
    (hu : v.chooseAll.lasting = u.chooseAll.lasting) (hr : v.port.waiting r.kind.cls = some r)
    (hc : r.kind.cls ≠ .mirror) : CompletesAsking c s u r :=
  ⟨_, he, (State.finish_lasting s v hm).trans hu, State.finish_asks s v r hr hc⟩

/-- The part goes on after every command: no arm of `exec` stops. -/
theorem exec_goesOn (c : Instr) (s : State) : goesOn (exec c s) := by
  cases c <;> exact ⟨_, rfl⟩

/-- The part goes on at every step. -/
theorem step_goesOn (s : State) : goesOn (step s) := by
  simp only [step]
  split
  · exact exec_goesOn _ _
  · split
    · exact exec_goesOn _ _
    · exact ⟨_, rfl⟩
    · exact ⟨_, rfl⟩

end Sys2Proof.Machine
end

