-- ==== Sys2Proof/Laws/Memory.lean ====
section
/-! SUPPORT. The payload store's bytes: writes keep the canonical form, a read after a write, and what writing a block
does. -/

namespace Sys2Proof.Machine

/-- The canonical form from a bound, taken apart at its first entry. -/
theorem cellsWfFrom_cons (lo a : Nat) (b : Byte) (rest : List Host.Cell) :
    cellsWfFrom lo ((a, b) :: rest) = true ↔ lo ≤ a ∧ a < 65536 ∧ b ≠ 0 ∧ cellsWfFrom (a + 1) rest = true := by
  simp [cellsWfFrom, and_assoc]

/-- A canonical list stays canonical from a lower bound. -/
theorem cellsWfFrom_mono {lo hi : Nat} (h : lo ≤ hi) (cells : List Host.Cell) (w : cellsWfFrom hi cells = true) :
    cellsWfFrom lo cells = true := by
  cases cells with
  | nil => rfl
  | cons c rest =>
    obtain ⟨a, b⟩ := c
    rw [cellsWfFrom_cons] at w ⊢
    exact ⟨by omega, w.2⟩

/-- Below its bound a canonical list reads 0. -/
theorem readCell_below (cells : List Host.Cell) (lo k : Nat) (w : cellsWfFrom lo cells = true) (h : k < lo) :
    readCell cells k = 0 := by
  induction cells generalizing lo with
  | nil => rfl
  | cons c rest ih =>
    obtain ⟨a, b⟩ := c
    rw [cellsWfFrom_cons] at w
    rw [readCell, if_neg (by omega)]
    exact ih (a + 1) w.2.2.2 (by omega)

/-- A write of one byte keeps the canonical form. -/
theorem writeCell_wf (cells : List Host.Cell) (lo k : Nat) (v : Byte) (w : cellsWfFrom lo cells = true) (h : lo ≤ k)
    (hk : k < 65536) : cellsWfFrom lo (writeCell cells k v) = true := by
  induction cells generalizing lo with
  | nil =>
    rw [writeCell]
    split
    · rfl
    · rw [cellsWfFrom_cons]; exact ⟨h, hk, ‹_›, rfl⟩
  | cons c rest ih =>
    obtain ⟨a, b⟩ := c
    have w' := (cellsWfFrom_cons lo a b rest).1 w
    rw [writeCell]
    split
    · split
      · exact w
      · rw [cellsWfFrom_cons]
        exact ⟨h, hk, ‹_›, (cellsWfFrom_cons _ _ _ _).2 ⟨by omega, w'.2⟩⟩
    · split
      · split
        · exact cellsWfFrom_mono (by omega) rest w'.2.2.2
        · rw [cellsWfFrom_cons]
          subst_vars
          exact ⟨h, hk, ‹_›, w'.2.2.2⟩
      · rw [cellsWfFrom_cons]
        exact ⟨w'.1, w'.2.1, w'.2.2.1, ih (a + 1) w'.2.2.2 (by omega)⟩

/-- A byte read after a byte is written. -/
theorem readCell_writeCell (cells : List Host.Cell) (lo k j : Nat) (v : Byte) (w : cellsWfFrom lo cells = true) :
    readCell (writeCell cells k v) j = if j = k then v else readCell cells j := by
  induction cells generalizing lo with
  | nil =>
    rw [writeCell]
    split <;> (try subst_vars) <;> simp [readCell, eq_comm]
  | cons c rest ih =>
    obtain ⟨a, b⟩ := c
    have w' := (cellsWfFrom_cons lo a b rest).1 w
    have hb : ∀ i, i ≤ a → readCell rest i = 0 := fun i hi => readCell_below rest (a + 1) i w'.2.2.2 (by omega)
    rw [writeCell]
    rcases Nat.lt_trichotomy k a with hk | hk | hk
    · rw [if_pos hk]
      by_cases hj : j = k
      · subst hj
        by_cases hv : v = 0
        · rw [if_pos hv, if_pos rfl, readCell, if_neg (by omega), hb _ (by omega), hv]
        · rw [if_neg hv, if_pos rfl, readCell, if_pos rfl]
      · by_cases hv : v = 0
        · rw [if_pos hv, if_neg hj]
        · rw [if_neg hv, if_neg hj, readCell, if_neg (by omega)]
    · subst hk
      rw [if_neg (by omega), if_pos rfl]
      by_cases hj : j = k
      · subst hj
        by_cases hv : v = 0
        · rw [if_pos hv, if_pos rfl, hb _ (by omega), hv]
        · rw [if_neg hv, if_pos rfl, readCell, if_pos rfl]
      · rw [if_neg hj]
        by_cases hv : v = 0
        · rw [if_pos hv, readCell, if_neg (by omega)]
        · rw [if_neg hv, readCell, readCell, if_neg (by omega), if_neg (by omega)]
    · rw [if_neg (by omega), if_neg (by omega), readCell, readCell, ih (a + 1) w'.2.2.2]
      by_cases hj : a = j
      · rw [if_pos hj, if_pos hj, if_neg (by omega)]
      · rw [if_neg hj, if_neg hj]

/-- A write of bytes keeps the canonical form. -/
theorem writeCells_wf (vs : List Byte) (cells : List Host.Cell) (k : Nat) (w : cellsWfFrom 0 cells = true)
    (h : k + vs.length ≤ 65536) : cellsWfFrom 0 (writeCells cells k vs) = true := by
  induction vs generalizing cells k with
  | nil => exact w
  | cons v vs ih =>
    rw [List.length_cons] at h
    exact ih (writeCell cells k v) (k + 1) (writeCell_wf cells 0 k v w (by omega) (by omega)) (by omega)

/-- A byte read after bytes are written. -/
theorem readCell_writeCells (vs : List Byte) (cells : List Host.Cell) (k j : Nat) (w : cellsWfFrom 0 cells = true)
    (h : k + vs.length ≤ 65536) :
    readCell (writeCells cells k vs) j
      = if k ≤ j ∧ j < k + vs.length then vs.getD (j - k) 0 else readCell cells j := by
  induction vs generalizing cells k with
  | nil =>
    rw [if_neg (by rintro ⟨h1, h2⟩; simp at h2; omega)]
    rfl
  | cons v vs ih =>
    rw [List.length_cons] at h
    rw [writeCells, ih _ _ (writeCell_wf cells 0 k v w (by omega) (by omega)) (by omega),
      readCell_writeCell cells 0 k j v w, List.length_cons]
    rcases Nat.lt_trichotomy j k with hj | hj | hj
    · rw [if_neg (by omega), if_neg (by omega), if_neg (by omega)]
    · subst hj
      rw [if_neg (by omega), if_pos rfl, if_pos (by omega)]
      simp
    · by_cases hl : j < k + 1 + vs.length
      · rw [if_pos (by omega), if_pos (by omega)]
        obtain ⟨d, rfl⟩ : ∃ d, j = k + 1 + d := ⟨j - (k + 1), by omega⟩
        rw [show k + 1 + d - (k + 1) = d by omega, show k + 1 + d - k = d + 1 by omega, List.getD_cons_succ]
      · rw [if_neg (by omega), if_neg (by omega), if_neg (by omega)]

/-- Filling or cutting gives the length asked for. -/
@[simp] theorem padTo_length (n : Nat) (bs : List Byte) : (padTo n bs).length = n := by
  simp [padTo, zeros]; omega

/-- A byte of a filled or cut list: the list's own, or zero. -/
theorem padTo_getD (n i : Nat) (bs : List Byte) (h : i < n) : (padTo n bs).getD i 0 = bs.getD i 0 := by
  simp only [padTo, zeros, List.getD_eq_getElem?_getD, List.getElem?_append, List.getElem?_take,
    List.getElem?_replicate, List.length_take]
  by_cases hi : i < bs.length
  · rw [if_pos (by omega), if_pos h]
  · rw [if_neg (by omega), List.getElem?_eq_none (by omega)]
    split <;> rfl

/-- Addresses of a block lie in the store. -/
theorem blockAddr_le (b : BlockId) : blockAddr b 0 + 256 ≤ 65536 := by
  have := b.isLt
  simp only [blockAddr]; omega

/-- Writing a block keeps the canonical form (R54). -/
theorem PayloadStore.writeBlock_wf (p : PayloadStore) (b : BlockId) (piece : List Byte)
    (w : Memory.wf p.cells = true) : Memory.wf (p.writeBlock b piece).cells = true :=
  writeCells_wf _ _ _ w (by rw [padTo_length]; exact blockAddr_le b)

/-- A byte of the block that is written: the piece's byte, or the zero fill (R54). -/
theorem PayloadStore.byte_writeBlock_same (p : PayloadStore) (b : BlockId) (piece : List Byte) (j : Nat)
    (w : Memory.wf p.cells = true) (h : j < 256) : (p.writeBlock b piece).byte b j = piece.getD j 0 := by
  simp only [PayloadStore.byte, PayloadStore.writeBlock]
  rw [readCell_writeCells _ _ _ _ w (by rw [padTo_length]; exact blockAddr_le b), padTo_length, if_pos, ← padTo_getD 256 j piece h]
  · congr 1
    simp only [blockAddr]; omega
  · simp only [blockAddr]; omega

/-- A byte of another block is as it was (R54). -/
theorem PayloadStore.byte_writeBlock_other (p : PayloadStore) (b c : BlockId) (piece : List Byte) (j : Nat)
    (w : Memory.wf p.cells = true) (h : j < 256) (hc : c ≠ b) : (p.writeBlock b piece).byte c j = p.byte c j := by
  simp only [PayloadStore.byte, PayloadStore.writeBlock]
  rw [readCell_writeCells _ _ _ _ w (by rw [padTo_length]; exact blockAddr_le b), padTo_length, if_neg]
  have hne : c.val ≠ b.val := fun e => hc (Fin.ext e)
  simp only [blockAddr]; omega

/-- Writing a block changes the bytes and the parity of its words alone. -/
@[simp] theorem PayloadStore.writeBlock_leaves (p : PayloadStore) (b : BlockId) (piece : List Byte) :
    (p.writeBlock b piece).free = p.free ∧ (p.writeBlock b piece).quarantine = p.quarantine
      ∧ (p.writeBlock b piece).loaderQueue = p.loaderQueue ∧ (p.writeBlock b piece).load = p.load :=
  ⟨rfl, rfl, rfl, rfl⟩

/-- Equal memories are equal data: two canonical lists that read the same everywhere are the same. -/
theorem cells_ext (x y : List Host.Cell) (lo : Nat) (wx : cellsWfFrom lo x = true) (wy : cellsWfFrom lo y = true)
    (h : ∀ k, readCell x k = readCell y k) : x = y := by
  induction x generalizing y lo with
  | nil =>
    cases y with
    | nil => rfl
    | cons c rest =>
      obtain ⟨a, b⟩ := c
      have := h a
      rw [cellsWfFrom_cons] at wy
      simp only [readCell, if_true] at this
      exact absurd this.symm wy.2.2.1
  | cons c rest ih =>
    obtain ⟨a, b⟩ := c
    have wx' := (cellsWfFrom_cons _ _ _ _).1 wx
    cases y with
    | nil =>
      have := h a
      simp only [readCell, if_true] at this
      exact absurd this wx'.2.2.1
    | cons d rest' =>
      obtain ⟨a', b'⟩ := d
      have wy' := (cellsWfFrom_cons _ _ _ _).1 wy
      have haa : a = a' := by
        rcases Nat.lt_trichotomy a a' with hl | he | hl
        · have e := h a
          rw [readCell_below ((a', b') :: rest') a' a ((cellsWfFrom_cons _ _ _ _).2 ⟨Nat.le_refl _, wy'.2⟩) hl] at e
          simp only [readCell, if_true] at e
          exact absurd e wx'.2.2.1
        · exact he
        · have e := h a'
          rw [readCell_below ((a, b) :: rest) a a' ((cellsWfFrom_cons _ _ _ _).2 ⟨Nat.le_refl _, wx'.2⟩) hl] at e
          simp only [readCell, if_true] at e
          exact absurd e.symm wy'.2.2.1
      subst haa
      have hb : b = b' := by simpa only [readCell, if_true] using h a
      subst hb
      congr 1
      refine ih rest' (a + 1) wx'.2.2.2 wy'.2.2.2 fun k => ?_
      have e := h k
      simp only [readCell] at e
      by_cases hk : a = k
      · subst hk
        rw [readCell_below rest (a + 1) a wx'.2.2.2 (by omega), readCell_below rest' (a + 1) a wy'.2.2.2 (by omega)]
      · rwa [if_neg hk, if_neg hk] at e

/-- Memory after reset is canonical: nothing is listed (R62). -/
theorem reset_wf : Memory.wf State.reset.store.cells = true := rfl

end Sys2Proof.Machine
end

