-- ==== Sys2Proof/WellFormed.lean ====
section
/-! DEFINITION. When a command is one that can reach the part: what each row's operands must satisfy for the command
to be that row. `exec` is total and does not test it (log 31). -/

namespace Sys2Proof

/-- A record as the system port reads it: 64 parameter bytes (11.2), of one of the row's kinds. -/
def Record.wfKind (r : Record) (lo hi : Byte) : Bool :=
  r.params.length == 64 && decide (lo ≤ r.kind) && decide (r.kind ≤ hi)

/-- A frame with a given kind value and a body whose length fits its 16-bit field (R103). -/
def Frame.wfKind (f : Frame) (k : BitVec 4) : Bool :=
  f.kind == k && decide (f.body.length < 65536)

/-- A frame of a kind the part only sends, or of a kind value outside the fourteen (R106). -/
def Frame.wfUntaken (f : Frame) : Bool :=
  [0x0, 0x1, 0x3, 0x6, 0x8, 0x9, 0xB, 0xD, 0xF].contains f.kind && decide (f.body.length < 65536)

/-- A register write that is no whole, aligned write of one of the six registers (R177). -/
def wfRegisterWrite (offset : Fin 32) (bytes : Nat) : Bool :=
  decide (1 ≤ bytes) && decide (bytes ≤ 4) && decide (offset.val + bytes ≤ 32) &&
    !(bytes == 4 && offset.val % 4 == 0 && decide (offset.val < 24))

/-- Admission data the group table can give (R11): a sequence that is assigned, a nonzero epoch, 1 ≤ q ≤ 8. -/
def AdmissionData.wf (d : AdmissionData) : Bool :=
  d.seq != Config.noneApplied && d.epoch != 0 && decide (1 ≤ d.quorum) && decide (d.quorum ≤ 8)

/-- An offer's entries stand in ascending group number (R149). -/
def wfOffer : List OfferEntry → Bool
  | [] => true
  | [_] => true
  | a :: b :: rest => decide (a.group < b.group) && wfOffer (b :: rest)

/-- The operands of a command are ones its row can have. -/
def Instr.wf : Instr → Bool
  | .powerOnReset | .portReset | .originLo _ | .originHi _ | .post _ | .start | .quiesce | .halt | .reset => true
  | .runInvalidCommand w =>
    let field := w.extractLsb' 0 4
    field == 0 || decide (5 ≤ field)
  | .notice _ | .mask _ => true
  | .registerWrite offset bytes _ => wfRegisterWrite offset bytes
  | .fetchStart | .nextFieldRead _ => true
  | .recordRead none => true
  | .recordRead (some bs) => bs.length == Config.recordBytes
  | .takenWrite _ | .linkWaitExpiry => true
  | .reRead none => true
  | .reRead (some bs) => bs.length == 8 || bs.length == Config.recordBytes
  | .nop _ r => r.wfKind 0x01 0x01
  | .setup _ r => r.wfKind 0x02 0x02
  | .groupSet _ r => r.wfKind 0x03 0x03
  | .linkBind _ r => r.wfKind 0x04 0x04
  | .exclude _ r => r.wfKind 0x05 0x05
  | .readmit _ r => r.wfKind 0x06 0x06
  | .commit _ r => r.wfKind 0x10 0x10
  | .barrier _ r => r.wfKind 0x11 0x11
  | .note _ r => r.wfKind 0x20 0x27
  | .pieceRead none => true
  | .pieceRead (some bs) => decide (1 ≤ bs.length) && decide (bs.length ≤ Config.blockBytes)
  | .admissionRequest _ _ => true
  | .admissionGranted _ d => d.wf
  | .admissionRefused _ _ | .dataEntry _ _ _ _ | .leftQueueNotice _ _ _ _ | .frameGoneOut _ => true
  | .frameRead _ upsets => upsets.all fun w => decide (w < Config.blocks * Config.blockWords)
  | .poisoningReport _ _ _ | .frameDiscarded _ _ => true
  | .helloReply _ f => f.wfKind 0x2
  | .ack _ f => f.wfKind 0x4
  | .nack _ f => f.wfKind 0x5
  | .epochAck _ f => f.wfKind 0x7
  | .rejoinReply _ f => f.wfKind 0xA
  | .probeReply _ f => f.wfKind 0xC
  | .noteReply _ f => f.wfKind 0xE
  | .signalPresent _ | .signalAbsent _ | .helloTimerExpiry _ | .silenceTimerExpiry _ | .ackTimerExpiry _ _ _
  | .epochTimerExpiry _ _ | .noteTimerExpiry _ | .replyTimerExpiry _ | .orderDeadlineExpiry _ => true
  | .ackReport _ _ _ _ => true
  | .retryRequest _ _ _ _ limit => decide (limit ≤ 7)
  | .retryAnswer _ _ _ _ _ | .nackReport _ _ _ _ _ | .linkDownReport _ _ _ _ | .slotMarking _ | .reportWriteEnd _
  | .fenceRequest _ _ | .retryNotice _ | .cleanStreakNotice _ _ | .removalRequest _ => true
  | .readmitEnding _ _ offer => wfOffer offer
  | .close _ _ | .release _ _ | .purgeOnFence _ => true
  | .wHandOver _ w => decide (1 ≤ w) && decide (w ≤ Config.maxWindow)
  | .fencePendingRequest _ _ | .slotRelease | .blockRelease | .quarantineNotice | .frozenFlagsCleared
  | .barrierReEvaluation | .resultAreaWrite | .outcomeWrite | .doneWrite | .reportWriteFault | .reportRetryExpiry
  | .windowEmpty | .chainQuiet | .mirrorWriteBegin | .mirrorLeadingWrite | .mirrorBodyWrite | .mirrorTrailingWrite
  | .mirrorWriteFault | .intervalTimerExpiry => true
  | .frameOfUntakenKind _ f => f.wfUntaken

end Sys2Proof
end

