-- ==== Sys2Proof/Tests/Slice0.lean ====
section
/-! SUPPORT. Small tests: a state built by helpers, the checks of well-formedness, the CRC and the formats, one step of
some rows, and for each statement of the package a state and operands that meet its hypotheses. -/

set_option Elab.async false

namespace Sys2Proof.Tests

open Sys2Proof Sys2Proof.Machine

/-! ### Helpers -/

/-- The next state of a command. -/
def after (c : Instr) (s : State) : State :=
  match exec c s with
  | .next t => t
  | .fault _ => s
  | .refused _ => s

/-- A record of a kind, its parameter area beginning with some bytes. -/
def order (kind : Byte) (flags : Byte) (params : List Byte) : Record :=
  { state := 0x01, kind := kind, flags := flags, outcome := 0, tag := 0x12345678, next := 0, params := padTo 64 params }

/-- A frame from the member with tag 7. -/
def reply (kind : BitVec 4) (group : Byte) (epoch : Epoch) (sequence param : BitVec 32) (body : List Byte) : Frame :=
  { kind := kind, flags := 0, group := group, senderTag := 7, epoch := epoch, sequence := sequence, param := param
    body := body }

/-- A COMMIT of group 0: `length` bytes at 0x20000 to offset 0x4000. -/
def commit (length : BitVec 16) : Record :=
  order 0x10 0 ([0, 0] ++ toLE 2 length.toNat ++ zeros 4 ++ toLE 8 0x20000 ++ toLE 8 0x4000)

/-- A group of the members 0 and 1. -/
def group0 : GroupRecord :=
  { state := .live, defined := 3, quorum := 1, retryLimit := 2, ackDeadline := 16, orderDeadline := 1, mode := .quorum
    base := 0, next := 1, epoch := 1, effective := 3, settle := 0, frozen := false, slotsInUse := 1 }

/-- The admission of sequence 0 of that group. -/
def admission0 : SlotAdmission :=
  { seq := 0, epoch := 1, quorum := 1, snapshot := 3, mode := .quorum, deadline := 1000 }

/-- An OPEN slot of group 0 with both members PENDING. -/
def slot0 : Slot :=
  { state := .opened, order := 0x1000, group := 0, waitAll := false, payloadAddr := 0x20000, length := 257
    target := 0x4000, blocks := [0, 1], checkWord := some 0, admission := some admission0
    results := #v[.pending, .pending, .none, .none, .none, .none, .none, .none], retries := Vector.replicate 8 0
    firstTry := 0xFF, queued := 1, deadlineRunning := true, poisoned := false, report := none }

/-- The data entry of slot 0. -/
def entry0 : DataEntry := { slot := 0, group := 0, seq := 0, retransmission := false }

/-- The outstanding entry of slot 0. -/
def outstanding0 : Outstanding := { slot := 0, group := 0, seq := 0, expiry := 16, ignored := false }

/-- An UP link of the member with tag 7. -/
def link0 : LinkEngine :=
  { LinkEngine.resetWith true with
    state := .up, tag := some 7, w := 2, credits := 1, silenceTimer := some 1000, outstanding := [outstanding0] }

/-- A member in a health. -/
def member (health : Health) (streak : Nat) : Member := { Member.reset with health := health, streak := streak }

/-- A part at work: RUNNING with the chain IDLE, the coordinator tag 5, group 0 with slot 0, link 0 UP with an ACTIVE
member, member 1 SUSPECT. -/
def work : State :=
  { State.reset with
    port := { SystemPort.reset with run := .running, originLo := 0x1000 }
    chain := { ChainReader.reset with state := .idle, walkPointer := 0x1000 }
    window := State.reset.window.set 0 (some slot0)
    groups := State.reset.groups.set 0 (some group0)
    members := (State.reset.members.set 0 (member .active 0)).set 1 (member .suspect 7)
    links := State.reset.links.set 0 link0
    notices := { NoticeUnit.reset with coordinatorTag := 5, mask := 0 } }

/-- That part with another chain reader, link 0, member 0, group 0 or slot 0. -/
def withChain (c : ChainReader) : State := { work with chain := c }
/-- Another link 0. -/
def withLink (l : LinkEngine) : State := work.setLink 0 l
/-- Another member 0. -/
def withMember (r : Member) : State := work.setMember 0 r
/-- Another group 0. -/
def withGroup (r : GroupRecord) : State := work.setGroup 0 (some r)
/-- Another slot 0. -/
def withSlot (t : Slot) : State := work.setSlot 0 (some t)

/-- A request of a kind. -/
def request (kind : RequestKind) (addr : Addr) (len : Nat) : MemRequest :=
  { kind := kind, addr := addr, len := len, data := [], abandoned := false }

/-- A state with a request in flight. -/
def busy (s : State) (q : MemRequest) : State := { s with port := { s.port with current := some q } }

/-- A walk whose record at 0x1080 is being read or written TAKEN. -/
def walking (step : WalkStep) : ChainReader :=
  { ChainReader.reset with
    state := .fetching, walkPointer := 0x1000, anchor := true, fetchAddr := some 0x1080, walk := step, reserved := 1
    pendingPosts := 1, fetched := some (order 0x01 0 []) }

/-- A chain reader with an EXCLUDE of member 0 under way. -/
def excluding0 : ChainReader :=
  { ChainReader.reset with
    state := .fetching, walk := .dispatching, reserved := 1, excluding := some { order := 0x1000, member := 0 } }

/-- A report at the head of the queue. -/
def report0 : Report := { order := 0x1000, outcome := .ok, result := .zero, slot := none }

/-- A reporter at work on it. -/
def reporting (r : Reporter) (retry : Bool) : ChainReader :=
  { ChainReader.reset with state := .idle, reports := [report0], reserved := 1, reporter := r, retryUsed := retry }

/-- A load of slot 0 at a piece. -/
def loading (piece : Nat) : State :=
  { withSlot { slot0 with state := .loading, checkWord := none, admission := none } with
    store :=
      { PayloadStore.reset with
        free := allBlocks.drop 2, loaderQueue := [0], load := some { piece := piece, crc := 0xFFFFFFFF } } }

/-- A readmit in flight for member 0, FENCED. -/
def readmit0 : Readmit :=
  { order := 0x1000, tag := 9, offer := [{ group := 0, epoch := 2, next := 1, atBase := false }], sent := true }

/-- A part whose mirror is clean and whose frozen group 0 a READMIT of its FENCED member 0 can be offered, once the READMIT
that froze it has ended. -/
def refreezing : State :=
  { (withMember Member.reset).setGroup 0 (some { group0 with slotsInUse := 0, frozen := true }) with
    notices := { work.notices with dirty := false } }

/-- The parameter bytes of a SETUP. -/
def setupBytes (tag probe interval base : Nat) : List Byte :=
  toLE 2 tag ++ toLE 2 probe ++ toLE 2 interval ++ zeros 2 ++ toLE 8 base

/-! ### Well-formedness: each check refuses an ill-formed command -/

theorem test_wf_refuses_runInvalidCommand : (Instr.runInvalidCommand 1).wf = false := by decide
theorem test_wf_refuses_registerWrite :
    (Instr.registerWrite 0 4 0).wf = false ∧ (Instr.registerWrite 0 0 0).wf = false ∧
      (Instr.registerWrite 30 4 0).wf = false := by decide
theorem test_wf_refuses_recordRead : (Instr.recordRead (some [0])).wf = false := by decide
theorem test_wf_refuses_reRead : (Instr.reRead (some [0])).wf = false := by decide
theorem test_wf_refuses_pieceRead : (Instr.pieceRead (some [])).wf = false := by decide
theorem test_wf_refuses_order_kinds :
    ([Instr.nop 0 (order 0x02 0 []), .setup 0 (order 0x01 0 []), .groupSet 0 (order 0x01 0 []),
      .linkBind 0 (order 0x01 0 []), .exclude 0 (order 0x01 0 []), .readmit 0 (order 0x01 0 []),
      .commit 0 (order 0x01 0 []), .barrier 0 (order 0x01 0 []), .note 0 (order 0x28 0 [])].all fun c => !c.wf) = true := by
  decide +kernel
theorem test_wf_refuses_short_record : (Instr.nop 0 { order 0x01 0 [] with params := [] }).wf = false := by
  decide +kernel
theorem test_wf_refuses_admissionGranted :
    (Instr.admissionGranted 0
      { seq := 0xFFFFFFFF, epoch := 1, quorum := 1, effective := 1, orderDeadline := 1, mode := .all }).wf = false := by
  decide +kernel
theorem test_wf_refuses_frameRead : (Instr.frameRead 0 [8192]).wf = false := by decide +kernel
theorem test_wf_refuses_frame_kinds :
    ([Instr.helloReply 0 (reply 0x4 0 0 0 0 []), .ack 0 (reply 0x2 0 0 0 0 []), .nack 0 (reply 0x4 0 0 0 0 []),
      .epochAck 0 (reply 0x4 0 0 0 0 []), .rejoinReply 0 (reply 0x4 0 0 0 0 []), .probeReply 0 (reply 0x4 0 0 0 0 []),
      .noteReply 0 (reply 0x4 0 0 0 0 []), .frameOfUntakenKind 0 (reply 0x4 0 0 0 0 [])].all fun c => !c.wf) = true := by
  decide +kernel
theorem test_wf_refuses_retryRequest : (Instr.retryRequest 0 0 0 0 8).wf = false := by decide
theorem test_wf_refuses_readmitEnding :
    (Instr.readmitEnding 0 true
      [{ group := 1, epoch := 1, next := 0, atBase := true }, { group := 0, epoch := 1, next := 0, atBase := true }]).wf
      = false := by decide
theorem test_wf_refuses_wHandOver : (Instr.wHandOver 0 33).wf = false ∧ (Instr.wHandOver 0 0).wf = false := by decide

/-! ### Formats -/

/-- The check value that R55 gives for the bytes "123456789". -/
theorem test_crc_check_value :
    crc32 [0x31, 0x32, 0x33, 0x34, 0x35, 0x36, 0x37, 0x38, 0x39] = 0xCBF43926 := by decide +kernel
theorem test_frame_bytes_read_back :
    Frame.ofBytes (reply 0x5 3 2 0x01020304 4 [1, 2]).bytes = some (reply 0x5 3 2 0x01020304 4 [1, 2]) := by
  decide +kernel
theorem test_frame_bad_check_is_discarded :
    Frame.ofBytes ((reply 0x4 0 0 0 0 []).bytes.set 1 0xFF) = none := by decide +kernel
theorem test_result_area_has_48_bytes :
    (ResultArea.commit 1 2 3 slot0.results 0x0A0B0C0D).bytes.length = 48 ∧
      (ResultArea.commit 1 2 3 slot0.results 0x0A0B0C0D).bytes.take 20 =
        [1, 0, 0, 0, 2, 0, 3, 0, 1, 1, 0, 0, 0, 0, 0, 0, 0x0D, 0x0C, 0x0B, 0x0A] := by decide +kernel
theorem test_mirror_body_has_504_bytes : work.status.bytes.length = 504 := by decide +kernel
theorem test_window_reads : work.readWindow 0x0C 4 = [1, 1, 0, 0] ∧
  work.readWindow 0x18 8 = zeros 8 := by decide +kernel
theorem test_no_word_spells_a_command : decodeTableWord 32 0 = none := by decide
theorem test_withFetchWord_changes_nothing : State.reset.withFetchWord 8 1 = State.reset := by decide +kernel

/-! ### One step of some rows -/

theorem test_post_starts_the_fetch :
    (after (.post 1025) work).chain.state = .fetching ∧ (after (.post 1025) work).chain.pendingPosts = 1 ∧
      (after (.post 1025) work).port.current = some (request .record 0x1000 128) := by decide +kernel
theorem test_start_of_a_stopped_part :
    let s := { work with port := { work.port with run := .stopped }, chain := ChainReader.reset }
    (after .start s).port.run = .running ∧ (after .start s).chain.walkPointer = 0x1000 ∧
      (after .start s).chain.state = .idle := by decide +kernel
theorem test_next_field_read_reads_the_record :
    let s := busy (withChain { walking .nextField with fetchAddr := none }) (request .nextField 0x1008 8)
    (after (.nextFieldRead (some 0x1080)) s).port.current = some (request .record 0x1080 128) := by decide +kernel
theorem test_record_read_writes_taken :
    let s := busy (withChain (walking .record)) (request .record 0x1080 128)
    (after (.recordRead (some ([0x01, 0x01] ++ zeros 126))) s).port.current =
      some { request .takenWrite 0x1080 1 with data := [0x02] } := by decide +kernel
theorem test_taken_write_claims_a_nop :
    let s := busy (withChain (walking .takenWrite)) (request .takenWrite 0x1080 1)
    let t := after (.takenWrite true) s
    t.chain.pendingPosts = 0 ∧ t.chain.walkPointer = 0x1080 ∧ t.chain.state = .idle ∧
      t.notices.raw = Notice.catchUp.flag ∧ t.chain.reports.map Report.outcome = [.ok] ∧
      t.port.current = some { request .resultArea 0x10D0 48 with data := zeros 48 } := by decide +kernel
theorem test_sixteenth_re_read_faults :
    let c : ChainReader := { walking .reRead with state := .linkWait, linkWaitCount := 15 }
    let t := after (.reRead (some (zeros 8))) (busy (withChain c) (request .reRead 0x1008 8))
    t.chain.state = .faulted ∧ t.notices.raw = Notice.chainFault.flag := by decide +kernel
theorem test_group_set_defines_group_15 :
    let r := order 0x03 0 ([15, 3, 1, 2, 0, 0] ++ toLE 2 16 ++ toLE 2 1 ++ zeros 2 ++ toLE 4 9)
    let t := after (.groupSet 0x1000 r) work
    ((t.group 15).map fun x => (x.epoch, x.effective, x.next, x.settle)) = some (1, 3, 9, 9) ∧
      (t.group 15).map GroupRecord.state = some .live ∧ t.inFlight.length = 8 := by decide +kernel
theorem test_commit_takes_the_lowest_slot_and_blocks :
    let t := after (.commit 0x2000 (commit 257)) work
    ((t.slot 1).map Slot.blocks) = some [0, 1] ∧ t.store.free.length = 254 ∧
      t.port.current = some (request .piece 0x20000 256) := by decide +kernel
theorem test_last_piece_asks_for_admission :
    let t := after (.pieceRead (some [0x31])) (busy (loading 1) (request .piece 0x20100 1))
    t.store.byte 1 0 = 0x31 ∧ t.store.byte 1 1 = 0 ∧ t.store.load = none ∧ t.inFlight = [.admissionRequest 0 0] ∧
      (t.slot 0).bind Slot.checkWord = some (crc32 [0x31]) := by decide +kernel
theorem test_admission_assigns_the_next_sequence :
    let t := after (.admissionRequest 0 0) work
    ((t.group 0).map GroupRecord.next) = some 2 ∧ t.inFlight =
      [.admissionGranted 0
        { seq := 1, epoch := 1, quorum := 1, effective := 3, orderDeadline := 1, mode := .quorum }] := by decide +kernel
theorem test_ack_at_quorum_reports :
    let t := after (.ackReport 0 0 0 0) work
    ((t.slot 0).map Slot.state) = some .reporting ∧ t.inFlight = [.cleanStreakNotice 0 true] ∧
      t.chain.reports.map Report.outcome = [.ok] := by decide +kernel
theorem test_retry_below_the_limit :
    let t := after (.retryRequest 0 0 0 0 2) work
    t.inFlight = [.retryAnswer 0 0 0 0 true, .retryNotice 0] ∧
      ((t.slot 0).map fun x => (x.retries[0], x.firstTry)) = some (1, 0xFE) := by decide +kernel
theorem test_report_write_end_trails :
    (((after (.reportWriteEnd 0) (withSlot { slot0 with state := .reporting })).slot 0).map Slot.state) =
      some .trailing := by decide +kernel
theorem test_deadline_fails_the_pending_members :
    let t := after (.orderDeadlineExpiry 0) work
    t.inFlight = [.fenceRequest 0 .deadline, .fenceRequest 1 .deadline] ∧
      t.chain.reports.map Report.outcome = [.deadline] ∧ t.now = 1000 := by decide +kernel
theorem test_data_entry_is_built :
    let t := after (.dataEntry 0 0 0 0) work
    (t.link 0).queue = [entry0] ∧ (t.link 0).build = some (.data entry0) := by decide +kernel
theorem test_frame_read_sends_the_write :
    let t := after (.frameRead 0 []) (withLink { link0 with build := some (.data entry0), queue := [entry0] })
    (t.link 0).queue = [] ∧ (t.link 0).credits = 0 ∧ ((t.link 0).sending.map Frame.kind) = some 3 ∧
      ((t.link 0).sending.map fun f => f.body.length) = some 265 ∧ t.inFlight = [.leftQueueNotice 0 0 0 0] := by
  decide +kernel
theorem test_frame_read_poisons :
    let t := after (.frameRead 0 [32]) (withLink { link0 with build := some (.data entry0), queue := [entry0] })
    t.store.quarantine = [1] ∧ t.notices.raw = Notice.storeFault.flag ∧ (t.link 0).sending = none ∧
      t.inFlight = [.leftQueueNotice 0 0 0 0, .poisoningReport 0 0 0, .quarantineNotice] := by decide +kernel
theorem test_hello_reply_brings_up :
    let t := after (.helloReply 0 (reply 0x2 0 0 0 0x00010020 [])) (withLink { link0 with state := .training })
    (t.link 0).state = .up ∧ (t.link 0).w = 32 ∧ (t.link 0).credits = 32 ∧ t.notices.raw = Notice.linkChange.flag := by
  decide +kernel
theorem test_ack_returns_the_credit :
    let t := after (.ack 0 (reply 0x4 0 0 0 0 [])) work
    (t.link 0).outstanding = [] ∧ (t.link 0).credits = 2 ∧ t.inFlight = [.ackReport 0 0 0 0] := by decide +kernel
theorem test_stray_ack :
    (after (.ack 0 (reply 0x4 0 0 5 0 [])) work).notices.raw = Notice.stray.flag := by decide +kernel
theorem test_epoch_timer_past_the_limit_fences :
    let x : Gate := { awaiting := true, epochPending := false, timer := some 20, sends := 3 }
    (after (.epochTimerExpiry 0 0) (withLink { link0 with gates := link0.gates.set 0 x })).inFlight =
      [.fenceRequest 0 .epochLost] := by decide +kernel
theorem test_signal_absent_lets_the_link_fall :
    let t := after (.signalAbsent 0) work
    (t.link 0).state = .down ∧ t.inFlight = [.linkDownReport 0 0 0 0, .fenceRequest 0 .linkDown] := by decide +kernel
theorem test_eighth_clean_notice :
    ((after (.cleanStreakNotice 1 true) work).member 1).health = .active := by decide +kernel
theorem test_fence_sends_its_requests :
    let t := after (.fenceRequest 0 .lost) work
    (t.member 0).health = .fenced ∧ (t.member 0).cause = some .lost ∧
      t.inFlight = [.removalRequest 0, .slotMarking 0, .purgeOnFence 0] := by decide +kernel
theorem test_removal_changes_the_epoch :
    ((after (.removalRequest 0) work).group 0).map (fun r => (r.epoch, r.effective)) = some (2, 2) := by decide +kernel
theorem test_rejoin_reply_readmits :
    let s := withMember { Member.reset with readmit := some readmit0, replyTimer := some 4000 }
    let t := after (.rejoinReply 0 (reply 0xA 0 0 9 0x00010004 (zeros 8))) s
    (t.member 0).health = .active ∧ t.chain.reports.map Report.outcome = [.ok] ∧ (t.link 0).credits = 4 ∧
      ((t.group 0).map fun r => (r.epoch, r.effective, r.frozen)) = some (2, 3, false) ∧
      t.inFlight.length = 9 ∧ t.inFlight.head? = some (.release 0 0) := by decide +kernel
theorem test_done_write_counts :
    let t := after .doneWrite (busy (withChain (reporting (.writing .done) false)) (request .done 0x1000 1))
    t.notices.doneTally = 1 ∧ t.chain.reports = [] ∧ t.chain.reserved = 0 ∧ t.notices.raw = Notice.done.flag ∧
      t.port.latch = true := by decide +kernel
theorem test_second_report_fault_gives_up :
    let t := after .reportWriteFault (busy (withChain (reporting (.writing .done) true)) (request .done 0x1000 1))
    t.chain.unreported = 0x1000 ∧ t.chain.state = .faulted ∧ t.notices.raw = Notice.systemFault.flag := by
  decide +kernel
theorem test_mirror_write_begins :
    let s := { work with notices := { work.notices with mirrorState := .on, mirrorBase := 0x8000 } }
    let t := after .mirrorWriteBegin s
    t.notices.generation = 1 ∧
      t.port.current = some { request .mirrorLeading 0x8000 4 with data := [1, 0, 0, 0] } := by decide +kernel
theorem test_halt_abandons :
    let t := after .halt work
    t.port.run = .halted ∧ t.slot 0 = none ∧ (t.member 0).cause = some .reset ∧ t.chain.state = .stopped := by
  decide +kernel
theorem test_refused_register_write :
    (after (.registerWrite 0x08 2 1) work).notices.raw = Notice.refused.flag := by decide +kernel
theorem test_step_takes_the_front_command :
    step { work with pending := [.post 1] } = exec (.post 1) work := rfl
theorem test_step_takes_the_oldest_request :
    step { work with inFlight := [.retryNotice 0, .retryNotice 1] } =
      exec (.retryNotice 0) { work with inFlight := [.retryNotice 0, .retryNotice 1] } := rfl
theorem test_step_lets_time_pass : step work = .next { work with now := 1 } := rfl

/-! ### For each statement with hypotheses, a state and operands that meet them, at the boundaries of its clauses -/

theorem test_witness_StepRunsTheFrontCommand :
    { work with pending := [.start, .halt] }.pending = .start :: [.halt] := by
  decide +kernel

theorem test_witness_EmptyQueueOwnEvents :
    { work with inFlight := [.slotRelease] }.inFlight = .slotRelease :: [] ∧
    ((withLink { link0 with build := some (.control .probe) }).link 0).readyControl = some .probe ∧
    (∀ m, (work.link m).readyControl = none) ∧
    work.inFlight = [] ∧ work.pending = [] ∧ work.mirrorSound ∧
    { work with now := 16 }.dueTimer = some (.ackTimerExpiry 0 0 0) ∧
    { work with now := 15 }.dueTimer = none := by
  delta State.mirrorSound
  decide +kernel

theorem test_witness_EmptyQueueOwnEvents_timers :
    let chain : ChainReader := { ChainReader.reset with state := .linkWait, linkWaitTimer := some 8 }
    ({ withChain chain with now := 8 }).dueTimer = some .linkWaitExpiry ∧
      ({ withChain chain with now := 7 }).dueTimer = none ∧
    { work with now := 1000 }.dueTimer.isSome = true ∧
    ((link0.outstanding.filter fun o => o.group == 0 && o.seq == 0).map Outstanding.expiry) = [16] := by
  decide +kernel

theorem test_witness_EmptyQueueOwnEvents_controlFrames :
    (withLink { link0 with build := some (.control .hello) }).mirrorSound ∧
      ((withLink { link0 with build := some (.control .hello) }).link 0).build = some (.control .hello) ∧
    ((withLink { link0 with build := some (.control .hello) }).link 0).sending = none ∧
    ((withLink { link0 with build := some (.control .fence) }).link 0).build = some (.control .fence) ∧
    (((withLink { link0 with build := some (.control .rejoin) }).setMember 0 { Member.reset with readmit := some readmit0 }).member 0).readmit = some readmit0 ∧
    ((withLink { link0 with build := some (.control (.epoch 0)) }).link 0).build = some (.control (.epoch 0)) ∧
      (withLink { link0 with build := some (.control (.epoch 0)) }).group 0 = some group0 ∧
    ((withLink { link0 with build := some (.control .note), note := some { order := 0, tag := 1, message := [1], sent := false } }).link 0).note.isSome = true := by
  delta State.mirrorSound
  decide +kernel

theorem test_witness_OriginAndTurnedAwayWrites :
    ({ work with port := { work.port with run := .stopped } }).mirrorSound ∧
      ({ work with port := { work.port with run := .quiesced } }).port.run = .quiesced ∧
      ({ work with port := { work.port with run := .halted } }).port.run = .halted ∧
    ({ work with port := { work.port with run := .quiescing } }).port.run = .quiescing ∧
    ((0 : Word32).toNat % 16 = 0) ∧ 5 ≤ (5 : Word32).toNat % 16 ∧ (0xFFFFFFF1 : Word32).toNat % 16 = 1 ∧
      (4 : Word32).toNat % 16 = 4 ∧
    0x18 ≤ (0x18 : Fin 32).val ∧ (0x17 : Fin 32).val < 0x18 ∧ (0x17 : Fin 32).val % 4 ≠ 0 := by
  delta State.mirrorSound
  decide +kernel

theorem test_witness_PostAddsToPendingPosts :
    work.mirrorSound ∧ (1024 : Word32).toNat % 1024 = 0 ∧
    (withChain { ChainReader.reset with state := .idle, pendingPosts := 65534 }).chain.pendingPosts + (1 : Word32).toNat % 1024 ≤ 65535 ∧
    ¬ (withChain { ChainReader.reset with state := .idle, pendingPosts := 65535 }).chain.pendingPosts + (1 : Word32).toNat % 1024 ≤ 65535 ∧
    ({ work with port := { work.port with run := .halted } }).port.run = .halted := by
  delta State.mirrorSound
  decide +kernel

theorem test_witness_PostAddsToPendingPosts_faults :
    let s := busy (withChain (walking .takenWrite)) (request .takenWrite 0x1080 1)
    s.port.current = some (request .takenWrite 0x1080 1) ∧ s.chain.state ≠ .faulted ∧
    (withChain { ChainReader.reset with state := .faulted }).chain.state = .faulted ∧
    (busy (withChain (walking .record)) (request .record 0x1080 128)).chain.walk = .record ∧
    (withChain { walking .idle with state := .held, heldReason := .barrier }).chain.heldReason = .barrier := by
  decide +kernel

theorem test_witness_NoticeAndMaskWrites :
    work.mirrorSound ∧ work.notices.mirrorState ≠ .on ∧
    let s := { work with notices := { work.notices with mirrorState := .on, mirrorBase := 0x8000, raw := 0xFFF } }
    s.mirrorSound ∧ s.notices.mirrorState = .on ∧ s.notices.raw ||| Notice.done.flag = s.notices.raw ∧
      work.notices.raw ||| Notice.catchUp.flag ≠ work.notices.raw := by
  delta State.mirrorSound
  decide +kernel

theorem test_witness_StartTakenOrRefused :
    (work.port.originHi ++ work.port.originLo : Addr) ≠ 0 ∧
      (work.port.originHi ++ work.port.originLo : Addr).toNat % 128 = 0 ∧
    ({ work with port := { work.port with run := .stopped } }).mirrorSound ∧
      ({ work with port := { work.port with run := .stopped } }).chain.state ≠ .faulted ∧
    ({ work with port := { work.port with run := .quiesced } }).port.run = .quiesced ∧
      ({ work with port := { work.port with run := .quiesced } }).chain.state ≠ .stopped ∧
    work.port.run ≠ .stopped ∧ work.port.run ≠ .quiesced := by
  delta State.mirrorSound
  decide +kernel

theorem test_witness_QuiesceToQuiesced :
    work.mirrorSound ∧ work.port.run = .running ∧ work.chain.state = .idle ∧
    (withChain (walking .record)).chain.state = .fetching ∧ (withChain (walking .record)).chain.walk ≠ .dispatching ∧
    (busy (withChain (walking .takenWrite)) (request .takenWrite 0x1080 1)).port.current = some (request .takenWrite 0x1080 1) := by
  delta State.mirrorSound
  decide +kernel

theorem test_witness_QuiesceToQuiesced_walkRead :
    let s := busy (withChain (walking .record)) (request .record 0x1080 128)
    s.mirrorSound ∧ s.port.run = .running ∧ s.chain.heldBarrier = none ∧
      s.port.current.map MemRequest.kind = some .record ∧
    (after .quiesce s).port.current = some { request .record 0x1080 128 with abandoned := true } ∧
    let q := { work.port with current := some (request .piece 0 1), waitWalk := some (request .record 0x1080 128) }
    let w := { withChain (walking .record) with port := q }
    (after .quiesce w).port.waitWalk = none ∧ (after .quiesce w).port.current = some (request .piece 0 1) := by
  delta State.mirrorSound
  decide +kernel

theorem test_witness_HaltAbandonsWork :
    ({ work with port := { work.port with run := .halted } }).mirrorSound ∧
      ({ work with port := { work.port with run := .halted } }).port.run = .halted ∧
    work.mirrorSound ∧ work.port.run ≠ .halted ∧ (work.member 0).health ≠ .fenced ∧
    (busy work (request .mirrorBody 0x8004 504)).port.current = some (request .mirrorBody 0x8004 504) ∧
      (request .mirrorBody 0x8004 504).kind.cls = .mirror ∧ (request .piece 0 1).kind.cls ≠ .mirror ∧
    let n := { work.notices with writeInFlight := true }
    let q := { work.port with waitMirror := some (request .mirrorBody 0x8004 504) }
    { work with notices := n, port := q }.notices.writeInFlight = true ∧ q.waitMirror.isSome = true := by
  delta State.mirrorSound
  decide +kernel

theorem test_witness_ResetReinitializes :
    work.notices.mirrorState ≠ .on ∧ work.port.latch = false ∧ (work.member 0).health ≠ .fenced ∧
      Notice.memberChange.flag &&& ~~~(work.notices.mask ||| work.notices.raw) ≠ 0 ∧
    { work.port with latch := true }.latch = true ∧ work.group 1 = none ∧ work.group 0 = some group0 ∧
      work.inFlight = [] := by decide +kernel

theorem test_reset_takes_the_epochs_and_sends_twice :
    let t := after .reset work
    ((t.group 0).map fun r => (r.epoch, r.settle, r.effective)) = some (4, 1, 0) ∧ t.port.interruptsSent = 2 ∧
      (t.link 0).credits = 2 ∧ (t.link 0).fencePending = true := by decide +kernel

theorem test_halt_takes_the_admission_requests_first :
    let t := after .halt { work with inFlight := [.admissionRequest 0 0] }
    ((t.group 0).map fun r => (r.next, r.settle, r.slotsInUse)) = some (2, 2, 0) := by decide +kernel

theorem test_witness_NextFieldRead :
    let s := busy (withChain { walking .nextField with fetchAddr := none }) (request .nextField 0x1008 8)
    s.mirrorSound ∧ s.port.current = some (request .nextField 0x1008 8) ∧
    ((0 : Addr) = 0) ∧ (0x1081 : Addr).toNat % 128 ≠ 0 ∧ 2 ^ 48 ≤ (0x1000000000000 : Addr).toNat ∧
    (0xFFFFFFFFFF80 : Addr).toNat % 128 = 0 ∧ (0xFFFFFFFFFF80 : Addr).toNat < 2 ^ 48 := by
  delta State.mirrorSound
  decide +kernel

theorem test_witness_FetchStart :
    (withChain { ChainReader.reset with state := .idle, pendingPosts := 1, reserved := 64 }).mirrorSound ∧
      (withChain { ChainReader.reset with state := .idle, pendingPosts := 1, reserved := 64 }).port.run = .running ∧
      64 ≤ (withChain { ChainReader.reset with state := .idle, pendingPosts := 1, reserved := 64 }).chain.reserved ∧
    (withChain { ChainReader.reset with state := .idle, pendingPosts := 1, reserved := 63 }).chain.reserved < 64 ∧
      (withChain { ChainReader.reset with state := .idle, pendingPosts := 1, anchor := true }).chain.anchor = true ∧
    (withChain { ChainReader.reset with state := .idle, pendingPosts := 1, walkPointer := 0xFFFFFFFFFF80 }).chain.walkPointer.toNat + 127 < 2 ^ 48 ∧
    ¬ (withChain { ChainReader.reset with state := .idle, pendingPosts := 1, walkPointer := 0x1000000000000 }).chain.walkPointer.toNat + 127 < 2 ^ 48 := by
  delta State.mirrorSound
  decide +kernel

theorem test_witness_RecordReadJudged :
    let s := busy (withChain (walking .record)) (request .record 0x1080 128)
    s.mirrorSound ∧ s.port.current = some (request .record 0x1080 128) ∧
    (Record.ofBytes (zeros 128)).state ≠ 0x01 ∧ (Record.ofBytes (0x01 :: 0x10 :: zeros 126)).state = 0x01 ∧
    (Record.ofBytes (0x01 :: 0x10 :: zeros 126)).kind = 0x10 ∧
      ∀ i, ({ work with window := Vector.replicate 32 (some slot0) }.slot i).isSome = true ∧
    (withGroup { group0 with frozen := true }).group 0 = some { group0 with frozen := true } ∧
    (Record.ofBytes ([0x01, 0x11] ++ zeros 14 ++ [0xFF] ++ zeros 111)).byte 0x10 = 0xFF ∧
    { PayloadStore.reset with free := [] }.fit 1 = .wait ∧
    ((walking .record).fetchAddr.getD 0).toNat < 2 ^ 48 := by
  delta State.mirrorSound
  decide +kernel

theorem test_witness_TakenWriteClaims :
    let s := busy (withChain (walking .takenWrite)) (request .takenWrite 0x1080 1)
    s.mirrorSound ∧ s.port.current = some (request .takenWrite 0x1080 1) ∧ s.chain.fetched = some (order 0x01 0 []) ∧
      s.chain.pendingPosts ≤ 1 ∧
    (order 0x20 0 []).kind = 0x20 ∧ 0x20 ≤ (order 0x27 0 []).kind ∧ (order 0x27 0 []).kind ≤ 0x27 ∧
      0x28 ≤ (order 0x28 0 []).kind ∧ (order 0x0F 0 []).kind ≤ 0x0F ∧ 0x12 ≤ (order 0x12 0 []).kind := by
  delta State.mirrorSound
  decide +kernel

theorem test_witness_LinkWaitTurns :
    (withChain { walking .idle with state := .linkWait, linkWaitTimer := some 8, reserved := 64 }).mirrorSound ∧
      (withChain { walking .idle with state := .linkWait, linkWaitTimer := some 8, reserved := 64 }).chain.linkWaitTimer = some 8 ∧
    (withChain { walking .idle with state := .linkWait, linkWaitTimer := some 8, waitingFor := .post, reserved := 63 }).chain.reserved < 64 ∧
    let s := busy (withChain { walking .reRead with state := .linkWait, linkWaitCount := 15 }) (request .reRead 0x1008 8)
    s.mirrorSound ∧ s.port.current = some (request .reRead 0x1008 8) ∧ s.chain.waitingFor = .link ∧
      ¬ s.chain.linkWaitCount + 1 < 16 ∧
    BitVec.ofNat 64 (ofLE ((zeros 8).take 8)) = (0 : Addr) ∧
      (BitVec.ofNat 64 (ofLE [0x80, 0x10, 0, 0, 0, 0, 0, 0]) : Addr) = 0x1080 ∧
    (withChain { walking .reRead with waitingFor := .post, linkWaitCount := 14 }).chain.linkWaitCount + 1 < 16 := by
  delta State.mirrorSound
  decide +kernel

theorem test_witness_NopReportsOk :
    (withChain (reporting (.writing .done) false)).mirrorSound ∧ (reporting (.writing .done) false).reporter ≠ .idle ∧
    work.chain.reporter = .idle ∧ ((0x1000 : Addr) + 0x50).toNat + 47 < 2 ^ 48 ∧
      ¬ ((0x1000000000000 : Addr) + 0x50).toNat + 47 < 2 ^ 48 := by
  delta State.mirrorSound
  decide +kernel

theorem test_witness_NopReportsOk_queueReport :
    let refusal : Report := { report0 with outcome := .badField, result := .groupSet 7, slot := some 3 }
    (work.queueReport refusal).chain.reports = [refusal] ∧
      (work.queueReport refusal).chain.reporter = .writing .resultArea ∧
    ((withChain (reporting (.writing .done) false)).queueReport refusal).chain.reports = [report0, refusal] := by
  decide +kernel

theorem test_witness_SetupTakenOrRefused :
    work.mirrorSound ∧ (order 0x02 0 []).setupFields.coordinatorTag = 0 ∧
    (order 0x02 0 (setupBytes 5 100 1023 0xFFFFFFFFFE00)).setupFields = { coordinatorTag := 5, probeInterval := 100, mirrorInterval := 1023, mirrorBase := 0xFFFFFFFFFE00 } ∧
    (0xFFFFFFFFFE00 : Addr).toNat % 64 = 0 ∧ ¬ 2 ^ 48 ≤ (0xFFFFFFFFFE00 : Addr).toNat + 511 ∧
      2 ^ 48 ≤ (0xFFFFFFFFFE40 : Addr).toNat + 511 ∧
    (order 0x02 0 (setupBytes 6 100 0 0)).setupFields.coordinatorTag ≠ work.notices.coordinatorTag ∧
      (work.link 0).state = .up := by
  delta State.mirrorSound
  decide +kernel

theorem test_witness_SetupTakenOrRefused_mirror :
    let on : NoticeUnit := { work.notices with mirrorState := .on, mirrorBase := 0x8000, writeInFlight := true }
    let s := busy { withLink { link0 with state := .down } with notices := on } (request .mirrorBody 0x8004 504)
    s.mirrorSound ∧ s.port.current = some (request .mirrorBody 0x8004 504) ∧ s.notices.writeInFlight = true ∧
      (s.link 0).state = .down ∧ (s.link 0).signal = true ∧
      (∀ m, (s.link m).state ≠ .training ∧ (s.link m).state ≠ .up) ∧
    let w := { s with port := { s.port with current := none, waitMirror := some (request .mirrorLeading 0x8000 4) } }
    w.mirrorSound ∧ w.port.current = none ∧ w.port.waitMirror.isSome = true ∧ work.port.waitMirror = none := by
  delta State.mirrorSound
  decide +kernel

theorem test_witness_GroupSetDefinesOrRefuses :
    work.mirrorSound ∧ (order 0x03 0 ([16, 3, 1, 7, 0, 0] ++ toLE 2 16 ++ toLE 2 1 ++ zeros 2 ++ toLE 4 9)).groupSetFields.group.toNat = 16 ∧ (order 0x03 0 ([15, 3, 1, 7, 0, 0] ++ toLE 2 16 ++ toLE 2 1 ++ zeros 2 ++ toLE 4 9)).groupSetFields.group.toNat = 15 ∧
    let f := (order 0x03 0 ([15, 3, 2, 7, 1, 0] ++ toLE 2 16 ++ toLE 2 4095 ++ zeros 2 ++ toLE 4 9)).groupSetFields
    f.members ≠ 0 ∧ 0 < f.quorum ∧ f.quorum ≤ setCard f.members ∧ f.retryLimit = 7 ∧ f.ackDeadline = 16 ∧
      f.orderDeadline = 4095 ∧ f.mode = 1 ∧ f.initialNext = 9 ∧
    let f := (order 0x03 0 ([15, 3, 3, 8, 2, 0] ++ toLE 2 15 ++ toLE 2 4096 ++ zeros 2 ++ toLE 4 9)).groupSetFields
    setCard f.members < f.quorum ∧ 7 < f.retryLimit ∧ f.ackDeadline < 16 ∧ 4095 < f.orderDeadline ∧ 1 < f.mode ∧
    work.group 0 = some group0 ∧ 0 < group0.slotsInUse ∧ work.group 1 = none ∧
    (withGroup { group0 with slotsInUse := 0, epoch := 0xFFFF }).group 0 = some { group0 with slotsInUse := 0, epoch := 0xFFFF } := by
  delta State.mirrorSound
  decide +kernel

theorem test_witness_LinkBindTakenOrRefused :
    work.mirrorSound ∧ ((order 0x04 0 ([8, 0] ++ toLE 2 1)).byte 0x10).toNat = 8 ∧
      ((order 0x04 0 ([7, 0] ++ toLE 2 1)).byte 0x10).toNat = 7 ∧
    (order 0x04 0 ([7, 0] ++ toLE 2 7)).bindTag = 7 ∧ (work.link 0).tag = some 7 ∧ (work.link 7).state = .unbound ∧
      (order 0x04 0 ([7, 0] ++ toLE 2 8)).bindTag ≠ 0 ∧
    work.notices.coordinatorTag ≠ 0 ∧ State.reset.notices.coordinatorTag = 0 ∧
    ((withLink { link0 with state := .down, outstanding := [] }).link 0).queue = [] ∧
      ((work.setLink 7 { LinkEngine.resetWith true with state := .down }).link 7).state = .down ∧
    (work.member 7).health = .fenced ∧ (work.member 7).readmit.isSome = false ∧
      (order 0x04 0 ([7, 0] ++ toLE 2 0)).bindTag = 0 := by
  delta State.mirrorSound
  decide +kernel

theorem test_witness_ExcludeAndFenceRequests :
    work.mirrorSound ∧ (work.member 0).health ≠ .fenced ∧ (work.member 2).health = .fenced ∧
    (order 0x05 0 [7]).link? = some 7 ∧ (order 0x05 0 [8]).link? = none ∧
    work.chain.excluding = none ∧ (withChain excluding0).chain.excluding = some { order := 0x1000, member := 0 } ∧
      { withChain excluding0 with inFlight := [.purgeOnFence 0] }.inFlight.contains (.purgeOnFence 0) = true := by
  delta State.mirrorSound
  decide +kernel

theorem test_last_request_reports_the_exclude :
    let t := after (.purgeOnFence 0) { withChain excluding0 with inFlight := [.purgeOnFence 0] }
    t.chain.excluding = none ∧ t.chain.reports.map Report.outcome = [.ok] ∧ t.chain.state = .idle := by decide +kernel

theorem test_witness_ReadmitTakenOrRefused :
    let s := (withMember Member.reset).setGroup 0 (some { group0 with slotsInUse := 0 })
    s.mirrorSound ∧ (order 0x06 0 [0]).link? = some 0 ∧ (order 0x06 0 [8]).link? = none ∧
      (s.link 0).state = .up ∧
      (s.member 0).health = .fenced ∧ (s.member 0).readmit.isSome = false ∧ (s.link 0).note.isSome = false ∧
    0 < group0.slotsInUse ∧ (work.member 0).health ≠ .fenced ∧ (work.link 1).state ≠ .up ∧
    ((withMember { Member.reset with readmit := some readmit0 }).member 0).readmit.isSome = true := by
  delta State.mirrorSound
  decide +kernel

theorem test_witness_CommitTakenOrRefused :
    work.mirrorSound ∧ (commit 4096).group? = some 0 ∧ (commit 4096).payloadLength = 4096 ∧
      (commit 4097).payloadLength = 4097 ∧
    (commit 0).payloadLength = 0 ∧ (commit 1).payloadAddr.toNat < 2 ^ 48 ∧
    (order 0x10 0 [16]).group? = none ∧ (order 0x10 0 [15]).group? = some 15 ∧ work.group 15 = none ∧
      work.group 0 = some group0 ∧
    work.slot 1 = none ∧ (∀ k : SlotId, k < 1 → (work.slot k).isSome = true) ∧
      (4096 + 255) / 256 ≤ work.store.free.length ∧
    256 - (List.replicate 241 (0 : BlockId)).length < (4096 + 255) / 256 ∧
      ¬ 256 - (List.replicate 240 (0 : BlockId)).length < (4096 + 255) / 256 ∧
    (loading 0).store.loaderQueue ≠ [] ∧ work.store.loaderQueue = [] ∧
    (0xFFFFFFFFFF00 : Addr).toNat + 256 - 1 < 2 ^ 48 ∧ ¬ (0xFFFFFFFFFF01 : Addr).toNat + 256 - 1 < 2 ^ 48 := by
  delta State.mirrorSound
  decide +kernel

theorem test_witness_BarrierSatisfiedOrHeld :
    work.mirrorSound ∧ (order 0x11 0 [16]).barrierTarget = none ∧ (order 0x11 0 [0]).barrierTarget = some (.group 0) ∧
    (order 0x11 0 [0xFF]).barrierTarget = some .all ∧
    (work.group 1).isNone = true ∧ ¬ group0.next ≤ group0.settle ∧
      { group0 with settle := 1 }.next ≤ { group0 with settle := 1 }.settle ∧
    let b : HeldBarrier := { order := 0x1000, targets := 1, recorded := [(0, 1)], loading := [] }
    let c : ChainReader := { ChainReader.reset with state := .held, heldReason := .barrier, heldBarrier := some b }
    (withChain c).chain.heldBarrier = some b ∧ (withChain c).chain.state = .held := by
  delta State.mirrorSound
  decide +kernel

theorem test_witness_NoteTakenOrRefused :
    work.mirrorSound ∧ (order 0x20 0 []).flags = 0 ∧ 64 < (order 0x20 65 []).flags ∧ ¬ 64 < (order 0x20 64 []).flags ∧
    (Fin.ofNat 8 ((0x27 : Byte).toNat - 0x20) : LinkId) = 7 ∧ (work.link 7).state ≠ .up ∧ (work.link 0).state = .up ∧
      (work.link 0).note.isSome = false ∧
    ((withMember { Member.reset with readmit := some readmit0 }).member 0).readmit.isSome = true := by
  delta State.mirrorSound
  decide +kernel

theorem test_witness_FitQueryAnswers :
    256 - { PayloadStore.reset with quarantine := [0] }.quarantine.length < (65281 + 255) / 256 ∧
    { PayloadStore.reset with free := [0] }.fit 256 = .fits ∧
      { PayloadStore.reset with free := [0] }.fit 257 = .wait ∧ PayloadStore.reset.fit 4097 = .fits := by
  decide +kernel

theorem test_witness_PieceReads :
    let s := busy (loading 1) (request .piece 0x20100 1)
    s.mirrorSound ∧ s.storeSound ∧ s.port.current = some (request .piece 0x20100 1) ∧ s.store.loaderQueue = 0 :: [] ∧
      s.store.load = some { piece := 1, crc := 0xFFFFFFFF } ∧
      s.slot 0 = some { slot0 with state := .loading, checkWord := none, admission := none } ∧
      slot0.blocks[1]? = some 1 ∧ [0x55].length = (request .piece 0x20100 1).len ∧
      ¬ 1 + 1 < (slot0.length + 255) / 256 ∧
    slot0.blocks[0]? = some 0 ∧ 0 + 1 < (slot0.length + 255) / 256 ∧ ((0x20000 : Addr) + 256).toNat + 1 - 1 < 2 ^ 48 ∧
    ¬ ((0xFFFFFFFFFF00 : Addr) + 256).toNat + 1 - 1 < 2 ^ 48 := by
  delta State.mirrorSound State.storeSound
  decide +kernel

theorem test_witness_PieceReads_begins :
    (loading 0).slot 0 = some { slot0 with state := .loading, checkWord := none, admission := none } ∧
      ¬ 2 ^ 48 ≤ slot0.payloadAddr.toNat + 256 - 1 ∧ 2 ^ 48 ≤ (0xFFFFFFFFFF01 : Addr).toNat + 256 - 1 ∧
      (loading 0).slot 1 = none := by
  decide +kernel

theorem test_witness_AdmissionsAskedAndAnswered :
    work.mirrorSound ∧ work.group 1 = none ∧ work.group 0 = some group0 ∧ group0.state ≠ .stalled ∧
    { group0 with state := .stalled }.state = .stalled ∧ { group0 with next := 0xFFFFFFFE }.next ≠ 0xFFFFFFFF ∧
    (withGroup { group0 with next := 0xFFFFFFFF }).group 0 = some { group0 with next := 0xFFFFFFFF } ∧
    work.settleMark 1 = 0 ∧ (withGroup { group0 with settle := 9 }).settleMark 0 = 9 := by
  delta State.mirrorSound
  decide +kernel

theorem test_witness_AdmissionsAskedAndAnswered_answers :
    let t : Slot := { slot0 with state := .loading, admission := none, results := Vector.replicate 8 .none }
    (withSlot t).mirrorSound ∧ (withSlot t).slot 0 = some t ∧ t.state = .loading ∧ t.checkWord.isSome = true ∧
    work.slot 0 = some slot0 ∧ slot0.state ≠ .loading ∧ (work.member 2).health = .fenced := by
  delta State.mirrorSound
  decide +kernel

theorem test_witness_SlotEvaluation :
    work.slot 0 = some slot0 ∧ slot0.admission = some admission0 ∧ slot0.state = .opened ∧ admission0.mode = .quorum ∧
    (withSlot { slot0 with admission := some { admission0 with mode := .all } }).slot 0 = some { slot0 with admission := some { admission0 with mode := .all } } ∧
    (withSlot { slot0 with state := .trailing }).slot 0 = some { slot0 with state := .trailing } ∧
      { slot0 with state := .reporting }.state = .reporting := by
  decide +kernel

theorem test_witness_RetireReleasesAndWriteEnds :
    work.slot 0 = some slot0 ∧
    (work.setSlot 1 (some { slot0 with state := .loading, admission := none })).slot 1 =
      some { slot0 with state := .loading, admission := none } ∧ work.group slot0.group = some group0 ∧
    { PayloadStore.reset with quarantine := [1] }.quarantine.contains 1 = true := by
  decide +kernel

theorem test_retire_keeps_a_granted_sequence :
    let d : AdmissionData :=
      { seq := 1, epoch := 1, quorum := 1, effective := 3, orderDeadline := 1, mode := .quorum }
    let s := (withGroup { group0 with next := 2, slotsInUse := 2 }).setSlot 1
      (some { slot0 with state := .loading, admission := none })
    let t := { s with inFlight := [.admissionGranted 1 d] }.retire 0
    ((t.group 0).map fun r => (r.settle, r.slotsInUse)) = some (1, 1) := by decide +kernel

theorem test_witness_MemberReportsAtTheWindow :
    work.mirrorSound ∧ work.slot 0 = some slot0 ∧ slot0.state ≠ .loading ∧ slot0.admission = some admission0 ∧
    slot0.results[0] = .pending ∧ slot0.retries[0] < 1 ∧ 0 ≤ slot0.retries[0] := by
  delta State.mirrorSound
  decide +kernel

theorem test_witness_WindowWithoutAMatch :
    work.mirrorSound ∧ (work.matchSlot 0 0 0).isSome = true ∧ work.matchSlot 0 0 1 = none ∧
      work.matchSlot 1 0 0 = none ∧
    slot0.results[2] ≠ .pending ∧ slot0.group ≠ 1 ∧ admission0.seq ≠ 1 ∧
    ((withSlot { slot0 with state := .trailing }).matchSlot 0 0 0).isSome = true := by
  delta State.mirrorSound
  decide +kernel

theorem test_witness_SlotMarkingFences :
    work.mirrorSound ∧ work.slot 0 = some slot0 := by
  delta State.mirrorSound
  decide +kernel

theorem test_witness_PoisonAndDeadlineFailPending :
    work.mirrorSound ∧ work.matchSlot 0 0 0 = some slot0 ∧ slot0.poisoned = false ∧ slot0.state = .opened ∧
      work.matchSlot 0 0 1 = none ∧
    (withSlot { slot0 with poisoned := true }).matchSlot 0 0 0 = some { slot0 with poisoned := true } ∧
    slot0.admission = some admission0 ∧ slot0.deadlineRunning = true ∧
      (allLinks.filter fun m => slot0.results[m.val] == .pending) ≠ [] ∧
    let t : Slot := { slot0 with state := .trailing, results := Vector.replicate 8 .acked }
    (withSlot t).slot 0 = some t ∧ (allLinks.filter fun m => t.results[m.val] == .pending) = [] := by
  delta State.mirrorSound
  decide +kernel

theorem test_witness_RetireReleasesAndWriteEnds_ends :
    let t : Slot := { slot0 with state := .reporting }
    let u : Slot := { t with results := Vector.replicate 8 .acked, queued := 0 }
    (withSlot t).mirrorSound ∧ (withSlot t).slot 0 = some t ∧ t.queued.getLsbD 0 = true ∧ (withSlot u).slot 0 = some u ∧
      (∀ m : LinkId, u.results[m.val] ≠ .pending ∧ u.queued.getLsbD m.val = false) ∧ work.slot 0 = some slot0 := by
  delta State.mirrorSound
  decide +kernel

theorem test_witness_DataEntriesPlacedOrRefused :
    work.mirrorSound ∧ (work.link 0).state = .up ∧ (work.member 0).health ≠ .fenced ∧ (work.link 1).state ≠ .up ∧
    let marked : DataEntry := { entry0 with retransmission := true }
    let later : DataEntry := { marked with seq := 2 }
    ((withLink { link0 with queue := [marked, later, entry0] }).link 0).queue = [marked] ++ [later, entry0] ∧
      ([marked].all fun e => e.retransmission && !(e.group == 0 && decide ((1 : Seq) < e.seq))) = true ∧
      (1 : Seq) < later.seq := by
  delta State.mirrorSound
  decide +kernel

theorem test_witness_TransmitterEvents :
    let s := withLink { link0 with build := some (.data entry0), queue := [entry0] }
    s.mirrorSound ∧ (s.link 0).build = some (.data entry0) ∧
      s.matchSlot entry0.slot entry0.group entry0.seq = some slot0 ∧
      (payloadWords slot0.blocks slot0.length).find? (([] : List Nat)).contains = none ∧
      (payloadWords slot0.blocks slot0.length).find? [32].contains = some 32 ∧
      (Fin.ofNat 256 (32 / 32) : BlockId) = 1 := by
  delta State.mirrorSound
  decide +kernel

theorem test_witness_TransmitterEvents_payload :
    256 < slot0.length ∧ slot0.blocks[256 / 256]? = some 1 ∧ slot0.blocks[255 / 256]? = some 0 ∧
    (payloadWords slot0.blocks slot0.length).length = 33 ∧ 32 < (slot0.length + 7) / 8 ∧
      (payloadWords slot0.blocks slot0.length)[32]? = some 32 ∧
    insertWord [5] 5 = [5] ∧ (insertWord [5] 4).contains 4 = true := by
  decide +kernel

theorem test_witness_TransmitterEvents_builds :
    let s := withLink { link0 with build := some (.data { entry0 with seq := 1 }), queue := [{ entry0 with seq := 1 }] }
    s.mirrorSound ∧ (s.link 0).build = some (.data { entry0 with seq := 1 }) ∧ s.matchSlot 0 0 1 = none ∧
    ((withLink { link0 with build := some (.control .probe) }).link 0).build = some (.control .probe) ∧
      (work.link 0).build = none ∧
    (withLink { link0 with queue := [entry0] }).mirrorSound ∧
      ({ link0 with queue := [entry0] }.choose .active).build = some (.data entry0) ∧
      ({ link0 with queue := [entry0], credits := 0 }.choose .active).build = none ∧
      ({ link0 with queue := [entry0] }.choose .fenced).build = none := by
  delta State.mirrorSound
  decide +kernel

theorem test_witness_ReceivedFrameChecks :
    work.mirrorSound ∧ (work.link 1).state = .unbound ∧ (work.link 0).state = .up ∧
      (work.link 0).tag = some (reply 0xC 0 0 0 0 []).senderTag ∧
    (work.link 0).tag ≠ some { reply 0xC 0 0 0 0 [] with senderTag := 8 }.senderTag ∧
      ((withLink { link0 with state := .training }).link 0).state = .training ∧
    (zeros 19).length ≠ 16 + ofBE (((zeros 19).drop 6).take 2) + 4 ∧
    (zeros 20).length = 16 + ofBE (((zeros 20).drop 6).take 2) + 4 ∧
    ofBE (((zeros 20).drop 16).take 4) ≠ (crc32 ((zeros 20).take 16)).toNat := by
  delta State.mirrorSound
  decide +kernel

theorem test_witness_HelloReplyBringsUp :
    let s := withLink { link0 with state := .training }
    s.mirrorSound ∧ (s.link 0).state = .training ∧ (s.link 0).tag = some (reply 0x2 0 0 0 0x00010020 []).senderTag ∧
    (0x00010020 : BitVec 32).toNat / 65536 = 1 ∧ (0x00010020 : BitVec 32).toNat % 65536 = 32 ∧
      (0x00010021 : BitVec 32).toNat % 65536 = 33 ∧
    (0x00010001 : BitVec 32).toNat % 65536 = 1 ∧ (0x00010000 : BitVec 32).toNat % 65536 = 0 := by
  delta State.mirrorSound
  decide +kernel

theorem test_witness_AnswersSettleOutstanding :
    work.mirrorSound ∧ (work.link 0).state = .up ∧ (work.link 0).tag = some (reply 0x4 0 0 0 0 []).senderTag ∧
    (reply 0x4 0 0 0 0 []).body = [] ∧ (reply 0x4 0 0 0 0 []).group.toNat = (0 : GroupId).val ∧
    ((work.link 0).outstanding.find? fun o => o.group == 0 && o.seq == (reply 0x4 0 0 0 0 []).sequence) = some outstanding0 ∧
    ((work.link 0).outstanding.find? fun o => o.group == 0 && o.seq == 1) = none ∧
      { outstanding0 with ignored := true }.ignored = true ∧
    (reply 0x5 0 0 0 1 []).param = 1 ∧ (reply 0x5 0 0 0 4 []).param = 4 ∧ ¬ (reply 0x5 0 0 0 5 []).param ≤ 4 ∧
      ¬ 1 ≤ (reply 0x5 0 0 0 0 []).param ∧ (reply 0x4 0 0 0 0 [1]).body ≠ [] ∧ 15 < (reply 0x4 16 0 0 0 []).group.toNat ∧
    let marked : DataEntry := { entry0 with seq := 1, retransmission := true }
    ((withLink { link0 with queue := [marked] }).link 0).queue.find?
      (fun e => e.retransmission && e.group == 0 && e.seq == 1) = some marked := by
  delta State.mirrorSound
  decide +kernel

theorem test_witness_EpochGates :
    work.mirrorSound ∧ (work.link 0).state = .up ∧ (work.link 1).state ≠ .up ∧ work.group 0 = some group0 ∧ work.group 1 = none ∧
    15 < (reply 0x7 16 1 0 0 []).group.toNat ∧ (reply 0x7 1 1 0 0 []).group.toNat = (1 : GroupId).val ∧
    (work.link 0).gates[0].timer = none ∧
    let x : Gate := { awaiting := true, epochPending := false, timer := some 20, sends := 2 }
    let s := withLink { link0 with gates := link0.gates.set 0 x }
    (s.link 0).gates[0] = x ∧ x.sends ≤ group0.retryLimit ∧ ¬ { x with sends := 3 }.sends ≤ group0.retryLimit ∧
      (reply 0x7 0 1 0 0 []).epoch = group0.epoch ∧ (s.link 0).gates[0].awaiting = true ∧
      (s.link 0).gates[0].timer = some 20 := by
  delta State.mirrorSound
  decide +kernel

theorem test_witness_MembershipRequestsAtTheLink :
    work.mirrorSound ∧ (work.link 0).state = .up ∧ (work.link 1).state ≠ .up := by
  delta State.mirrorSound
  decide +kernel

theorem test_witness_NoteEnds :
    let n : NoteInFlight := { order := 0x1000, tag := 1, message := [1], sent := true }
    let s := withLink { link0 with note := some n, noteTimer := some 4000 }
    s.mirrorSound ∧ (work.link 0).note = none ∧ (work.link 0).noteTimer = none ∧ (s.link 0).note = some n ∧ (s.link 0).noteTimer = some 4000 ∧ (s.link 0).state = .up ∧
      (s.link 0).tag = some (reply 0xE 0 0 1 0 []).senderTag ∧ n.tag = (reply 0xE 0 0 1 0 []).sequence ∧
      n.tag ≠ (reply 0xE 0 0 2 0 []).sequence ∧ 32 < (reply 0xE 0 0 1 0 (zeros 33)).body.length ∧
      ¬ 32 < (reply 0xE 0 0 1 0 (zeros 32)).body.length := by
  delta State.mirrorSound
  decide +kernel

theorem test_witness_SignalsAndLinkTimers :
    let s := withLink { link0 with state := .down, signal := false }
    s.mirrorSound ∧ (s.link 0).state = .down ∧ s.notices.coordinatorTag ≠ 0 ∧ (work.link 1).state = .unbound ∧
      (work.link 0).state = .up ∧
    ((withLink { link0 with state := .training, helloTimer := some 1000 }).link 0).helloTimer = some 1000 ∧
      (work.link 0).helloTimer = none ∧
    (work.link 0).silenceTimer = some 1000 ∧ (work.link 1).silenceTimer = none ∧
    { link0 with heard := true }.heard = true ∧ { link0 with unanswered := 2 }.unanswered < 3 ∧
      ¬ { link0 with unanswered := 3 }.unanswered < 3 := by
  delta State.mirrorSound
  decide +kernel

theorem test_witness_FallEmptiesTheLink :
    (work.link 0).state = .up ∧ (work.link 0).note = none ∧ (work.member 0).readmit = none ∧
      (work.link 0).signal = true ∧ work.notices.coordinatorTag ≠ 0 := by decide +kernel

theorem test_fall_ends_a_note_and_a_readmit :
    let n : NoteInFlight := { order := 0x2000, tag := 1, message := [1], sent := true }
    let s := (withLink { link0 with note := some n, noteTimer := some 4000 }).setMember 0
      { Member.reset with readmit := some readmit0, replyTimer := some 4000 }
    let t := s.fall 0
    t.chain.reports.map (fun r => (r.order, r.outcome)) = [(0x2000, .noReply), (0x1000, .noReply)] ∧
      t.inFlight = [.linkDownReport 0 0 0 0, .fenceRequest 0 .linkDown, .fencePendingRequest 0 false,
        .readmitEnding 0 false readmit0.offer] ∧ (t.link 0).state = .training := by decide +kernel

theorem test_witness_RetryAndCleanStreakNotices :
    work.mirrorSound ∧ (work.member 0).health = .active ∧ (work.member 1).health = .suspect ∧
      (work.member 2).health = .fenced := by
  delta State.mirrorSound
  decide +kernel

theorem test_witness_RetryAndCleanStreakNotices_taken :
    let s := { work with inFlight := [.purgeOnFence 0, .retryNotice 0, .retryNotice 0] }
    (s.taken (.retryNotice 0)).inFlight = [.purgeOnFence 0, .retryNotice 0] ∧ s.mirrorSound ∧
      (s.taken (.cleanStreakNotice 0 true)).inFlight = s.inFlight := by
  delta State.mirrorSound
  decide +kernel

theorem test_witness_RetryAndCleanStreakNotices_clean :
    work.mirrorSound ∧ (work.member 1).health = .suspect ∧ ¬ (work.member 1).streak + 1 < 8 ∧
    ((work.setMember 1 (member .suspect 6)).member 1).streak + 1 < 8 := by
  delta State.mirrorSound
  decide +kernel

theorem test_witness_RemovalRequestLeavesGroups :
    work.mirrorSound ∧ work.group 0 = some group0 ∧ group0.effective.getLsbD 0 = true ∧
    group0.effective.getLsbD 2 = false ∧
      setCard (setErase { group0 with effective := 1 }.effective 0) < group0.quorum := by
  delta State.mirrorSound
  decide +kernel

theorem test_witness_ReadmitEndingAtTheGroups :
    let offer : List OfferEntry :=
      [{ group := 0, epoch := 2, next := 1, atBase := false }, { group := 15, epoch := 1, next := 0, atBase := true }]
    work.mirrorSound ∧ (offer.map OfferEntry.group).Nodup ∧ (([] : List OfferEntry).map OfferEntry.group).Nodup ∧
      work.group 0 = some group0 ∧ group0.epoch + 1 = 2 ∧ work.group 15 = none := by
  delta State.mirrorSound
  decide +kernel

theorem test_witness_RejoinReplies :
    let s := withMember { Member.reset with readmit := some readmit0, replyTimer := some 4000 }
    let body : List Byte := [0, 0, 0, 0, 0, 0, 0, 0]
    s.mirrorSound ∧ (s.link 0).state = .up ∧ (s.link 0).tag = some (reply 0xA 0 0 9 0x00010020 body).senderTag ∧
      (s.member 0).readmit = some readmit0 ∧ readmit0.sent = true ∧
      readmit0.tag = (reply 0xA 0 0 9 0x00010020 body).sequence ∧
      body.length % 8 = 0 ∧
      (readmit0.offer.map fun e => BitVec.ofNat 8 e.group.val) = (replyEntries body).map Prod.fst ∧
      (s.member 0).replyTimer = some 4000 ∧
    (0x00010020 : BitVec 32).toNat / 65536 = 1 ∧ (0x00010020 : BitVec 32).toNat % 65536 = 32 ∧
      (5 : BitVec 32).toNat / 65536 = 0 ∧
    (readmit0.offer.map fun e => BitVec.ofNat 8 e.group.val) ≠ (replyEntries []).map Prod.fst ∧
    1 < (0x00020001 : BitVec 32).toNat / 65536 ∧ (0x00010000 : BitVec 32).toNat % 65536 = 0 ∧
    (work.member 0).readmit = none ∧ (work.member 0).replyTimer = none ∧ (zeros 7).length % 8 ≠ 0 := by
  delta State.mirrorSound
  decide +kernel

theorem test_witness_HoldReChecks :
    let c : ChainReader := { walking .idle with state := .held, heldReason := .slot, fetched := some (commit 1), reserved := 63 }
    let s := withChain c
    s.mirrorSound ∧ s.chain.state = .held ∧ s.chain.heldReason = .slot ∧ s.chain.fetched = some (commit 1) ∧
      s.holdApplies (commit 1) .slot = false ∧
      { s with window := Vector.replicate 32 (some slot0) }.holdApplies (commit 1) .slot = true ∧
      s.chain.reserved < 64 ∧ (s.chain.fetchAddr.getD 0).toNat + 127 < 2 ^ 48 := by
  delta State.mirrorSound
  decide +kernel

theorem test_witness_ReportWrites :
    let s := busy (withChain (reporting (.writing .done) false)) (request .done 0x1000 1)
    s.mirrorSound ∧ s.port.current = some (request .done 0x1000 1) ∧ s.chain.reports = report0 :: [] ∧
      report0.order.toNat + 127 < 2 ^ 48 ∧ s.chain.reporter = .writing .done ∧
    (busy (withChain (reporting (.writing .resultArea) true)) (request .resultArea 0x1050 48)).chain.retryUsed = true ∧
    (request .outcome 0x1003 1).kind = .outcome ∧
    let c : ChainReader := { reporting (.retryWait .done) false with retryTimer := some 8 }
    (withChain c).chain.retryTimer = some 8 ∧ (withChain c).chain.reporter = .retryWait .done ∧
      (report0.request .done).refused = false ∧
      work.chain.retryTimer = none := by
  delta State.mirrorSound
  decide +kernel

theorem test_witness_ReportWrites_restarts :
    (withChain { walking .awaitFetch with reserved := 64 }).chain.walk = .awaitFetch ∧
      64 ≤ { walking .awaitFetch with reserved := 64 }.reserved ∧ ¬ 64 ≤ (walking .awaitFetch).reserved ∧
      { walking .awaitFetch with anchor := false }.anchor = false ∧ (walking .awaitFetch).anchor = true ∧
    (withChain (walking .awaitRefetch)).chain.walk = .awaitRefetch ∧
    (withChain { walking .awaitReRead with waitingFor := .post }).chain.waitingFor = .post ∧
      (walking .awaitReRead).waitingFor = .link := by
  decide +kernel

theorem test_witness_QuiesceToQuiesced_quiet :
    let s : State := { State.reset with port := { SystemPort.reset with run := .quiescing } }
    s.mirrorSound ∧ s.port.run = .quiescing ∧ (∀ i, s.slot i = none) ∧ s.chain.reports = [] ∧
      s.chain.walk ≠ .takenWrite ∧
      s.chain.walk ≠ .dispatching ∧ s.chain.heldBarrier = none ∧ (∀ m, (s.member m).readmit = none ∧
      (s.link m).note = none) ∧
      work.port.run ≠ .quiescing := by
  delta State.mirrorSound
  decide +kernel

theorem test_witness_MirrorWrites :
    let s : State := { work with notices := { work.notices with mirrorState := .on, mirrorBase := 0xFFFFFFFFFE00, dirty := true } }
    s.mirrorSound ∧ s.notices.mirrorState = .on ∧ s.notices.dirty = true ∧ s.notices.writeInFlight = false ∧
      s.notices.intervalTimer = none ∧
    let s : State := busy { work with notices := { work.notices with mirrorState := .on, mirrorBase := 0xFFFFFFFFFE00, dirty := false, writeInFlight := true } } (request .mirrorTrailing 0xFFFFFFFFFFFC 4)
    s.mirrorSound ∧ s.port.current = some (request .mirrorTrailing 0xFFFFFFFFFFFC 4) ∧
      s.notices.writeInFlight = true ∧ s.notices.dirty = false ∧
    (request .mirrorLeading 0 4).kind = .mirrorLeading ∧ (request .mirrorBody 0 504).kind = .mirrorBody ∧
      (request .mirrorBody 0 504).abandoned = false ∧
    let s : State := { work with notices := { work.notices with mirrorState := .on, mirrorBase := 0xFFFFFFFFFE00, dirty := false, intervalTimer := some 9 } }
    s.notices.intervalTimer = some 9 ∧ s.notices.dirty = false ∧ work.notices.dirty = true := by
  delta State.mirrorSound
  decide +kernel

theorem test_witness_GivenUpCompletions :
    let q : MemRequest := { request .done 0x1000 1 with abandoned := true }
    (busy work q).mirrorSound ∧ (busy work q).port.current = some q ∧ q.abandoned = true ∧ q.kind = .done ∧
    let n := { work.notices with mirrorState := .on, mirrorBase := 0x8000 }
    { work with notices := n }.mirrorSound ∧ n.mirrorState = .on ∧ n.dirty = true ∧ n.intervalTimer = none := by
  delta State.mirrorSound
  decide +kernel

theorem test_abandoned_done_write_counts :
    let t := after .doneWrite (busy work { request .done 0x1000 1 with abandoned := true })
    t.notices.doneTally = 1 ∧ t.notices.raw = Notice.done.flag ∧ t.port.current = none := by decide +kernel

theorem test_witness_DirtyFlagFollowsChanges :
    work.mirrorSound ∧ exec (.notice 0) work = .next (after (.notice 0) work) ∧ work.notices.dirty = true ∧
      (after .fetchStart (withChain { work.chain with pendingPosts := 1 })).status ≠
        (withChain { work.chain with pendingPosts := 1 }).status ∧
    let f := (order 0x02 0 (setupBytes 5 100 1023 0)).setupFields
    f.coordinatorTag ≠ 0 ∧ f.mirrorBase = 0 ∧ f.mirrorInterval ≤ 1023 ∧ 100 ≤ f.probeInterval ∧
      f.coordinatorTag = work.notices.coordinatorTag := by
  delta State.mirrorSound
  refine ⟨by decide +kernel, rfl, ?_⟩
  decide +kernel

theorem test_witness_DirtyFlagFollowsChanges_refrozen :
    let s := { refreezing with inFlight := [.readmitEnding 1 false readmit0.offer] }
    s.mirrorSound ∧ s.notices.dirty = false ∧ (order 0x06 0 [0]).link? = some 0 ∧
      (s.group 0).map GroupRecord.frozen = some true ∧
    let t := after (.readmit 0x1000 (order 0x06 0 [0])) s
    t.status.groups = s.status.groups ∧ (t.member 0).readmit.isSome = true ∧ t.notices.dirty = true := by
  delta State.mirrorSound
  decide +kernel

theorem test_witness_ArbiterAndInterrupt :
    SystemPort.reset.current = none ∧
      { SystemPort.reset with waitPayload := some (request .piece 0 1) }.waitPayload = some (request .piece 0 1) ∧
    work.port.latch = false ∧
      (after .quiesce { work with port := { work.port with run := .stopped } }).port.latch = true ∧
    (after .quiesce { work with port := { work.port with run := .stopped } }).notices.active ≠ 0 := by
  decide +kernel

theorem test_witness_RequestsStayUntilTheyComplete :
    let q := request .nextField 0x1008 8
    let s := busy (withChain { walking .nextField with fetchAddr := none }) q
    exec (.nextFieldRead (some 0)) s = .next (after (.nextFieldRead (some 0)) s) ∧
      (after (.nextFieldRead (some 0)) s).port.current = none ∧
    (after (.nextFieldRead (some 0x1080)) s).port.current = some (request .record 0x1080 128) ∧
    (after (.recordRead none) s).port.current = some q ∧
    (after (.nextFieldRead none) (busy s { q with abandoned := true })).port.current = none := by
  refine ⟨rfl, ?_⟩
  decide +kernel

theorem test_completion_issues_the_highest_class :
    let s := busy (loading 1) (request .piece 0x20100 1)
    let mirror := request .mirrorLeading 0x8000 4
    let walk := request .record 0x1080 128
    let t := after (.pieceRead none) { s with port := { s.port with waitMirror := some mirror, waitWalk := some walk } }
    t.port.current.map MemRequest.kind = some .resultArea ∧ t.port.waitMirror = some mirror ∧
      t.port.waitWalk = some walk := by
  decide +kernel

theorem test_notice_write_sends_again :
    let s : State :=
      { work with port := { work.port with latch := true }, notices := { work.notices with raw := 3 } }
    (after (.notice 1) s).port.interruptsSent = 1 ∧ (after (.notice 1) s).port.latch = true := by decide +kernel

theorem test_witness_RecordAndFrameFormats :
    (zeros 32).length ≤ 32 ∧ ([] : List Byte).length ≤ 32 ∧ ¬ (zeros 33).length ≤ 32 ∧
      (ResultArea.note (zeros 32)).bytes.length = 48 ∧
    (zeros 7).length < 8 ∧ replyEntries [3, 0, 0, 0, 1, 2, 3, 4] = [(3, 0x01020304)] := by decide +kernel

theorem test_witness_invariants :
    work.storeSound ∧ work.mirrorSound ∧ work.chain.pendingPosts ≤ 65535 ∧
    { work with store := { PayloadStore.reset with cells := [(0, 1), (0xFFFF, 2)] } }.storeSound ∧
    group0.quorum ≤ 8 ∧ group0.quorum ≤ setCard group0.defined ∧ group0.state = derivedState group0.quorum group0.effective ∧ group0.epoch ≠ 0 ∧
      group0.retryLimit ≤ 7 ∧ 16 ≤ group0.ackDeadline ∧
    0 < group0.orderDeadline ∧
    (∀ m, (work.member m).streak < 8) ∧ ∀ m, (work.member m).health ≠ .suspect → (work.member m).streak = 0 := by
  delta State.mirrorSound State.storeSound
  decide +kernel

theorem test_witness_effectiveSound :
    let s := withMember { Member.reset with readmit := some readmit0 }
    s.effectiveSound ∧ s.offersSound ∧ s.groupsSound := by
  refine ⟨?_, ⟨?_, fun _ _ h => (nomatch h), fun _ _ h => (nomatch h)⟩, ?_⟩
  · delta State.effectiveSound
    decide +kernel
  · delta State.offerSound
    decide +kernel
  · delta State.groupsSound GroupRecord.sound
    decide +kernel

end Sys2Proof.Tests
end

section
/-! PROOFS. The commit window: what each of its operations does to a slot that it takes, and the statements about the
report point, the reports at the window, slot markings, poisoning and deadlines. -/

open Sys2Proof Sys2Proof.Machine

namespace Sys2Proof.Machine

/-! ### Completion of a row whose meaning is one operation -/

/-- A row whose operation ends at `v` completes at every way to write `v`. -/
theorem completes_operation {c : Instr} {s u : State} (v : State) (hs : s.mirrorSound)
    (he : exec c s = .next (State.finish s v))
    (hn : v.notices.mirrorBase = s.notices.mirrorBase ∧ v.notices.mirrorState = s.notices.mirrorState)
    (hu : v = u) : Completes c s u :=
  hu ▸ completes_at hs he hn.1 hn.2

/-- ACK_REPORT completes at what the window makes of the report. -/
theorem ackReport_completes {s u : State} {i : SlotId} {g : GroupId} {seq : Seq} {m : LinkId} (hs : s.mirrorSound)
    (hu : (s.taken (.ackReport i g seq m)).takeAck i g seq m = u) : Completes (.ackReport i g seq m) s u :=
  completes_operation _ hs rfl (by simp) hu

/-- RETRY_REQUEST completes at what the window makes of the request. -/
theorem retryRequest_completes {s u : State} {i : SlotId} {g : GroupId} {seq : Seq} {m : LinkId} {limit : Nat}
    (hs : s.mirrorSound)
    (hu : (s.taken (.retryRequest i g seq m limit)).takeRetryRequest i g seq m limit = u) :
    Completes (.retryRequest i g seq m limit) s u :=
  completes_operation _ hs rfl (by simp) hu

/-- NACK_REPORT completes at what the window makes of the failure. -/
theorem nackReport_completes {s u : State} {i : SlotId} {g : GroupId} {seq : Seq} {m : LinkId} {why : NackFailure}
    (hs : s.mirrorSound)
    (hu : (s.taken (.nackReport i g seq m why)).takeFailure i g seq m (nackCause why) = u) :
    Completes (.nackReport i g seq m why) s u :=
  completes_operation _ hs rfl (by simp) hu

/-- LINK_DOWN_REPORT completes at what the window makes of the failure. -/
theorem linkDownReport_completes {s u : State} {i : SlotId} {g : GroupId} {seq : Seq} {m : LinkId}
    (hs : s.mirrorSound)
    (hu : (s.taken (.linkDownReport i g seq m)).takeFailure i g seq m .linkDown = u) :
    Completes (.linkDownReport i g seq m) s u :=
  completes_operation _ hs rfl (by simp) hu

/-- LEFT_QUEUE_NOTICE completes at what the window makes of the notice. -/
theorem leftQueueNotice_completes {s u : State} {i : SlotId} {g : GroupId} {seq : Seq} {m : LinkId}
    (hs : s.mirrorSound)
    (hu : (s.taken (.leftQueueNotice i g seq m)).takeLeftQueue i g seq m = u) :
    Completes (.leftQueueNotice i g seq m) s u :=
  completes_operation _ hs rfl (by simp) hu

/-- POISONING_REPORT completes at what the window makes of the report. -/
theorem poisoningReport_completes {s u : State} {i : SlotId} {g : GroupId} {seq : Seq} (hs : s.mirrorSound)
    (hu : (s.taken (.poisoningReport i g seq)).poison i g seq = u) : Completes (.poisoningReport i g seq) s u :=
  completes_operation _ hs rfl (by simp) hu

/-- ORDER_DEADLINE_EXPIRY completes at what the window makes of the expiry. -/
theorem orderDeadlineExpiry_completes {s u : State} {i : SlotId} (hs : s.mirrorSound)
    (hu : s.deadlineExpired i = u) : Completes (.orderDeadlineExpiry i) s u :=
  completes_operation _ hs rfl (by simp) hu

/-- SLOT_MARKING completes at the marked window with the EXCLUDE looked at. -/
theorem slotMarking_completes {s u : State} {m : LinkId} (hs : s.mirrorSound)
    (hu : (s.taken (.slotMarking m)).markFenced m = u) : Completes (.slotMarking m) s u.excludeCheck :=
  completes_operation _ hs rfl (by simp) (congrArg State.excludeCheck hu)

/-! ### The evaluation of a slot (R36, R37, R43) -/

/-- Every link is listed. -/
theorem mem_allLinks (m : LinkId) : m ∈ allLinks := by
  revert m; decide

/-- Every slot is listed. -/
theorem mem_allSlots (i : SlotId) : i ∈ allSlots := by
  revert i; decide

/-- A slot is settled when no member is PENDING or queued (R43). -/
theorem Slot.settled_iff (t : Slot) :
    t.settled = true ↔ ∀ m : LinkId, t.results[m.val] ≠ .pending ∧ t.queued.getLsbD m.val = false := by
  simp [Slot.settled, Slot.memberSettled, setHas, mem_allLinks]

/-- What follows an event at an OPEN slot (R36, R37). -/
theorem State.afterChange_opened {s : State} {i : SlotId} {t : Slot} (h : s.slot i = some t)
    (ho : t.state = .opened) :
    s.afterChange i = t.evaluated.elim s (s.reportPoint i) := by
  simp only [State.afterChange, h, ho]
  cases t.evaluated <;> rfl

/-- What follows an event at a TRAILING slot (R42, R43). -/
theorem State.afterChange_trailing {s : State} {i : SlotId} {t : Slot} (h : s.slot i = some t)
    (ht : t.state = .trailing) : s.afterChange i = if t.settled then s.retire i else s := by
  simp only [State.afterChange, h, ht]

/-- Nothing follows an event at a LOADING or REPORTING slot. -/
theorem State.afterChange_of_not_evaluated {s : State} {i : SlotId} {t : Slot} (h : s.slot i = some t)
    (hs : t.state = .loading ∨ t.state = .reporting) : s.afterChange i = s := by
  rcases hs with hs | hs <;> simp only [State.afterChange, h, hs]

/-- An OPEN slot in QUORUM mode (R36). -/
theorem State.afterChange_quorum {s : State} {i : SlotId} {t : Slot} {a : SlotAdmission} (h : s.slot i = some t)
    (ha : t.admission = some a) (ho : t.state = .opened) (hm : a.mode = .quorum) :
    s.afterChange i =
      if a.quorum ≤ t.ackedCount then s.reportPoint i .ok
      else if t.ackedCount + t.pendingCount < a.quorum then s.reportPoint i .quorumLost
      else s := by
  simp only [State.afterChange_opened h ho, Slot.evaluated, ha, hm, Slot.quorumOutcome,
    apply_ite (Option.elim · s (s.reportPoint i)), Option.elim_some, Option.elim_none]

/-- Every member of a snapshot has acknowledged (R37). -/
theorem Slot.all_acked_iff (t : Slot) (snapshot : MemberSet) :
    (allLinks.all fun m => !setHas snapshot m || t.results[m.val] == .acked) = true ↔
      ∀ m : LinkId, snapshot.getLsbD m.val = true → t.results[m.val] = .acked := by
  rw [List.all_eq_true]
  refine ⟨fun h m hm => ?_, fun h m _ => ?_⟩
  · have hacked := h m (mem_allLinks m)
    simp only [setHas, hm, Bool.not_true, Bool.false_or, beq_iff_eq] at hacked
    exact hacked
  · cases hm : snapshot.getLsbD m.val with
    | false => simp only [setHas, hm, Bool.not_false, Bool.true_or]
    | true => simp only [h m hm, BEq.rfl, Bool.or_true]

/-- An OPEN slot in ALL mode (R37). -/
theorem State.afterChange_all {s : State} {i : SlotId} {t : Slot} {a : SlotAdmission} (h : s.slot i = some t)
    (ha : t.admission = some a) (ho : t.state = .opened) (hm : a.mode = .all) :
    s.afterChange i =
      if 0 < t.pendingCount then s
      else if ∀ m : LinkId, a.snapshot.getLsbD m.val = true → t.results[m.val] = .acked then s.reportPoint i .ok
      else if a.quorum ≤ t.ackedCount then s.reportPoint i .partialOk
      else s.reportPoint i .quorumLost := by
  simp only [State.afterChange_opened h ho, Slot.evaluated, ha, hm, Slot.allOutcome, t.all_acked_iff,
    Nat.pos_iff_ne_zero, apply_ite (Option.elim · s (s.reportPoint i)), Option.elim_some, Option.elim_none]

/-- The report point of a slot in use (R39, R94). -/
theorem State.reportPoint_of_slot {s : State} {i : SlotId} {t : Slot} (h : s.slot i = some t)
    (outcome : OrderOutcome) :
    s.reportPoint i outcome =
      (s.setSlot i (some (t.reported outcome (s.settleMark t.group)))).queueReport
        { order := t.order, outcome := outcome, result := t.resultArea (s.settleMark t.group), slot := some i } := by
  simp only [State.reportPoint, h]

/-- The settle mark of a defined group is its record's. -/
theorem State.settleMark_of_group {s : State} {g : GroupId} {r : GroupRecord} (h : s.group g = some r) :
    s.settleMark g = r.settle := by
  simp only [State.settleMark, h]

/-- Settles O27: the branches of the evaluation by state and mode, and the report point with its report written
out. -/
theorem slotEvaluation : Obligations.SlotEvaluation := by
  unfold Obligations.SlotEvaluation
  refine ⟨fun s i t a h ha => ⟨State.afterChange_quorum h ha, State.afterChange_all h ha, fun ht => ?_,
    State.afterChange_of_not_evaluated h⟩, fun s i t outcome h => State.reportPoint_of_slot h outcome,
    fun s g r => State.settleMark_of_group⟩
  rw [State.afterChange_trailing h ht]
  exact ite_congr (propext t.settled_iff) (fun _ => rfl) (fun _ => rfl)

/-! ### Matching (R27) -/

/-- What a slot must be to be the one that a report names (R27). -/
theorem Slot.isFor_iff (t : Slot) (g : GroupId) (seq : Seq) :
    t.isFor g seq = true ↔ t.state ≠ .loading ∧ t.group = g ∧ t.admission.map SlotAdmission.seq = some seq := by
  simp [Slot.isFor, and_assoc]

/-- The slot that a report names is in the window, and is for its group and sequence. -/
theorem State.matchSlot_eq_some {s : State} {i : SlotId} {g : GroupId} {seq : Seq} {t : Slot} :
    s.matchSlot i g seq = some t ↔ s.slot i = some t ∧ t.isFor g seq = true := by
  simp [State.matchSlot, Option.filter_eq_some_iff]

/-- A slot past LOADING with an admission matches its own group and sequence. -/
theorem State.matchSlot_of_admission {s : State} {i : SlotId} {t : Slot} {a : SlotAdmission} (h : s.slot i = some t)
    (hl : t.state ≠ .loading) (ha : t.admission = some a) : s.matchSlot i t.group a.seq = some t :=
  State.matchSlot_eq_some.2 ⟨h, (t.isFor_iff _ _).2 ⟨hl, rfl, by rw [ha]; rfl⟩⟩

/-- The admission of a slot that a report names holds the named sequence. -/
theorem Slot.admission_of_isFor {t : Slot} {g : GroupId} {seq : Seq} (h : t.isFor g seq = true) :
    t.state ≠ .loading ∧ t.group = g ∧ ∃ a, t.admission = some a ∧ a.seq = seq := by
  obtain ⟨hl, hg, ha⟩ := (t.isFor_iff g seq).1 h
  exact ⟨hl, hg, Option.map_eq_some_iff.1 ha⟩

/-- Taking a request leaves what matches. -/
@[simp] theorem State.matchSlot_taken (s : State) (c : Instr) (i : SlotId) (g : GroupId) (seq : Seq) :
    (s.taken c).matchSlot i g seq = s.matchSlot i g seq := rfl

/-! ### Reports of the link engines (R28 to R31) -/

/-- An ACK report at a slot that matches with the member PENDING (R28). -/
theorem State.takeAck_of_pending {s : State} {i : SlotId} {g : GroupId} {seq : Seq} {t : Slot} {m : LinkId}
    (h : s.matchSlot i g seq = some t) (hp : t.result m = .pending) :
    s.takeAck i g seq m =
      ((s.setSlot i (some (t.setResult m .acked))).send
        (.cleanStreakNotice m (setHas t.firstTry m))).afterChange i := by
  simp only [State.takeAck, h, if_pos hp]

/-- A retry request below the limit (R29). -/
theorem State.takeRetryRequest_below {s : State} {i : SlotId} {g : GroupId} {seq : Seq} {t : Slot} {m : LinkId}
    {limit : Nat} (h : s.matchSlot i g seq = some t) (hp : t.result m = .pending) (hl : t.retries[m.val] < limit) :
    s.takeRetryRequest i g seq m limit =
      ((s.setSlot i (some (t.grantRetry m))).send (.retryAnswer m i g seq true)).send (.retryNotice m) := by
  simp only [State.takeRetryRequest, h, if_pos hp, if_pos hl]

/-- A retry request at the limit (R29). -/
theorem State.takeRetryRequest_at_limit {s : State} {i : SlotId} {g : GroupId} {seq : Seq} {t : Slot} {m : LinkId}
    {limit : Nat} (h : s.matchSlot i g seq = some t) (hp : t.result m = .pending) (hl : limit ≤ t.retries[m.val]) :
    s.takeRetryRequest i g seq m limit = (s.send (.retryAnswer m i g seq false)).failMember i t m .lost := by
  simp only [State.takeRetryRequest, h, if_pos hp, if_neg (Nat.not_lt.2 hl)]

/-- A failure report at a slot that matches with the member PENDING (R30, R31). -/
theorem State.takeFailure_of_pending {s : State} {i : SlotId} {g : GroupId} {seq : Seq} {t : Slot} {m : LinkId}
    (cause : FenceCause) (h : s.matchSlot i g seq = some t) (hp : t.result m = .pending) :
    s.takeFailure i g seq m cause = s.failMember i t m cause := by
  simp only [State.takeFailure, h, if_pos hp]

/-- Settles O29: the slot matches, so each report takes its branch for a PENDING member. -/
theorem memberReportsAtTheWindow : Obligations.MemberReportsAtTheWindow := by
  unfold Obligations.MemberReportsAtTheWindow
  intro s i m limit why t a hs h hl ha hp
  have hmatch : ∀ c, (s.taken c).matchSlot i t.group a.seq = some t := fun c =>
    (s.matchSlot_taken c i t.group a.seq).trans (State.matchSlot_of_admission h hl ha)
  refine ⟨ackReport_completes hs (State.takeAck_of_pending (hmatch _) hp),
    fun hr => retryRequest_completes hs (State.takeRetryRequest_below (hmatch _) hp hr),
    fun hr => retryRequest_completes hs (State.takeRetryRequest_at_limit (hmatch _) hp hr),
    nackReport_completes hs ?_, linkDownReport_completes hs (State.takeFailure_of_pending _ (hmatch _) hp)⟩
  rw [State.takeFailure_of_pending _ (hmatch _) hp]
  cases why <;> rfl

/-! ### Reports that are discarded, and left-queue notices (R23, R27 to R31) -/

/-- An ACK report is discarded where no slot matches with the member PENDING (R27, R28). -/
theorem State.takeAck_discarded {s : State} {i : SlotId} {g : GroupId} {seq : Seq} {m : LinkId}
    (h : ∀ t, s.matchSlot i g seq = some t → t.result m ≠ .pending) : s.takeAck i g seq m = s := by
  cases hm : s.matchSlot i g seq with
  | none => simp only [State.takeAck, hm]
  | some t => simp only [State.takeAck, hm, if_neg (h t hm)]

/-- A retry request is answered GIVE_UP where no slot matches with the member PENDING (R27, R29). -/
theorem State.takeRetryRequest_discarded {s : State} {i : SlotId} {g : GroupId} {seq : Seq} {m : LinkId} {limit : Nat}
    (h : ∀ t, s.matchSlot i g seq = some t → t.result m ≠ .pending) :
    s.takeRetryRequest i g seq m limit = s.send (.retryAnswer m i g seq false) := by
  cases hm : s.matchSlot i g seq with
  | none => simp only [State.takeRetryRequest, hm]
  | some t => simp only [State.takeRetryRequest, hm, if_neg (h t hm)]

/-- A failure report is discarded where no slot matches with the member PENDING (R27, R30, R31). -/
theorem State.takeFailure_discarded {s : State} {i : SlotId} {g : GroupId} {seq : Seq} {m : LinkId}
    (cause : FenceCause) (h : ∀ t, s.matchSlot i g seq = some t → t.result m ≠ .pending) :
    s.takeFailure i g seq m cause = s := by
  cases hm : s.matchSlot i g seq with
  | none => simp only [State.takeFailure, hm]
  | some t => simp only [State.takeFailure, hm, if_neg (h t hm)]

/-- A left-queue notice that no slot matches is discarded (R23). -/
theorem State.takeLeftQueue_unmatched {s : State} {i : SlotId} {g : GroupId} {seq : Seq} {m : LinkId}
    (h : s.matchSlot i g seq = none) : s.takeLeftQueue i g seq m = s := by
  simp only [State.takeLeftQueue, h]

/-- A left-queue notice at the slot it matches: the queued flag is cleared, and a TRAILING slot is checked (R23,
R42). -/
theorem State.takeLeftQueue_of_match {s : State} {i : SlotId} {g : GroupId} {seq : Seq} {m : LinkId} {t : Slot}
    (h : s.matchSlot i g seq = some t) :
    s.takeLeftQueue i g seq m =
      if t.state = .trailing then (s.setSlot i (some { t with queued := setErase t.queued m })).afterChange i
      else s.setSlot i (some { t with queued := setErase t.queued m }) := by
  simp only [State.takeLeftQueue, h]
  cases t.state <;> rfl

/-- A set with one link taken out, written with a shifted bit. -/
theorem setErase_eq_shift (x : MemberSet) (m : LinkId) : setErase x m = x &&& ~~~((1 : MemberSet) <<< m.val) := by
  simp only [setErase, BitVec.twoPow_eq]
  rfl

/-- Settles O30: nothing matches, or the member is not PENDING; and a left-queue notice by whether a slot matches. -/
theorem windowWithoutAMatch : Obligations.WindowWithoutAMatch := by
  unfold Obligations.WindowWithoutAMatch
  refine ⟨fun s i g seq m limit why hs h => ?_, fun s i g seq m hs => ?_, fun s i g seq => ?_⟩
  · have hnone : ∀ c t, (s.taken c).matchSlot i g seq = some t → t.result m ≠ .pending := fun c t ht hp => by
      rw [State.matchSlot_taken] at ht
      obtain ⟨hslot, hfor⟩ := State.matchSlot_eq_some.1 ht
      obtain ⟨hl, hg, a, ha, hseq⟩ := Slot.admission_of_isFor hfor
      rcases h t hslot a ha with h | h | h | h
      · exact hl h
      · exact h hg
      · exact h hseq
      · exact h hp
    exact ⟨ackReport_completes hs (State.takeAck_discarded (hnone _)),
      retryRequest_completes hs (State.takeRetryRequest_discarded (hnone _)),
      nackReport_completes hs (State.takeFailure_discarded _ (hnone _)),
      linkDownReport_completes hs (State.takeFailure_discarded _ (hnone _))⟩
  · cases hm : s.matchSlot i g seq with
    | none => exact leftQueueNotice_completes hs (State.takeLeftQueue_unmatched hm)
    | some t =>
      have hu := State.takeLeftQueue_of_match (s := s.taken (.leftQueueNotice i g seq m)) (m := m) hm
      rw [setErase_eq_shift] at hu
      dsimp only
      split
      next ht => exact leftQueueNotice_completes hs (hu.trans (if_pos ht))
      next ht => exact leftQueueNotice_completes hs (hu.trans (if_neg ht))
  · cases hslot : s.slot i with
    | none => rw [State.matchSlot, hslot]; rfl
    | some t =>
      rw [State.matchSlot, hslot, Option.filter_some]
      exact ite_congr (propext (t.isFor_iff g seq)) (fun _ => rfl) (fun _ => rfl)

/-! ### Slot markings (R33) -/

/-- Every slot of a list without repeats changed: the window with those slots changed. -/
theorem State.foldl_modSlot (f : Slot → Slot) {l : List SlotId} (hl : l.Nodup) (s : State) :
    l.foldl (fun s i => s.modSlot i f) s =
      { s with window := Vector.ofFn fun i => if i ∈ l then (s.slot i).map f else s.slot i } := by
  induction l generalizing s with
  | nil =>
    have hw : (Vector.ofFn fun i : SlotId => s.slot i) = s.window := by ext i hi; simp [State.slot]
    simp [hw]
  | cons k l ih =>
    obtain ⟨hk, hl⟩ := List.nodup_cons.1 hl
    have hw : ∀ i, (if i ∈ l then ((s.modSlot k f).slot i).map f else (s.modSlot k f).slot i) =
        if i ∈ k :: l then (s.slot i).map f else s.slot i := by
      intro i
      rw [State.modSlot, State.slot_setSlot]
      by_cases hi : i = k
      · subst hi; simp [hk]
      · simp [hi]
    rw [List.foldl_cons, ih hl]
    simp only [hw]
    rfl

/-- A marking changes a slot past LOADING whose member is PENDING (R33). -/
theorem State.marks_eq (s : State) (m : LinkId) (i : SlotId) :
    s.marks m i = (s.slot i).any fun t => t.state != .loading && t.results[m.val] == .pending := by
  simp only [State.marks]
  cases s.slot i <;> rfl

/-- A slot marking: the marked window, and then each marked slot evaluated (R33, log 39). -/
theorem State.markFenced_eq (s : State) (m : LinkId) :
    s.markFenced m = (allSlots.filter (s.marks m)).foldl State.afterChange
      { s with window := Vector.ofFn fun i =>
                if s.marks m i then (s.slot i).map fun t => t.setResult m .fenced else s.slot i } := by
  have hnodup : (allSlots.filter (s.marks m)).Nodup := List.Pairwise.filter _ (by decide : allSlots.Nodup)
  simp only [State.markFenced, State.foldl_modSlot _ hnodup, List.mem_filter, mem_allSlots, true_and]

/-- Settles O31: the changed slots are those the model marks. -/
theorem slotMarkingFences : Obligations.SlotMarkingFences := by
  unfold Obligations.SlotMarkingFences
  intro s m hs
  refine slotMarking_completes hs ?_
  rw [State.markFenced_eq, funext (State.marks_eq (s.taken (.slotMarking m)) m)]
  rfl

/-! ### Poisoning and order deadlines (R34, R35, R38) -/

/-- Failure reports join those under way, in the list's order (log 28). -/
theorem State.reportFailures_eq (s : State) (ms : List LinkId) (cause : FenceCause) :
    s.reportFailures ms cause = { s with inFlight := s.inFlight ++ ms.map fun m => .fenceRequest m cause } :=
  foldl_send (fun m => .fenceRequest m cause) ms s

/-- A poisoning report that no slot matches is discarded (R34). -/
theorem State.poison_unmatched {s : State} {i : SlotId} {g : GroupId} {seq : Seq} (h : s.matchSlot i g seq = none) :
    s.poison i g seq = s := by
  simp only [State.poison, h]

/-- A poisoned slot is not poisoned again (R34). -/
theorem State.poison_again {s : State} {i : SlotId} {g : GroupId} {seq : Seq} {t : Slot}
    (h : s.matchSlot i g seq = some t) (hp : t.poisoned = true) : s.poison i g seq = s := by
  simp only [State.poison, h, if_pos hp]

/-- A slot poisoned for the first time (R34, R35). -/
theorem State.poison_first {s v : State} {i : SlotId} {g : GroupId} {seq : Seq} {t : Slot}
    (h : s.matchSlot i g seq = some t) (hp : ¬ t.poisoned = true)
    (hv : v = (s.setSlot i (some { t.failPending .poison with poisoned := true })).reportFailures t.pendingLinks
      .poison) :
    s.poison i g seq = if t.state = .opened then v.reportPoint i .storeFault else v.afterChange i := by
  simp only [State.poison, h, if_neg hp, hv]
  cases t.state <;> rfl

/-- An order deadline's expiry while the timer runs (R38). -/
theorem State.deadlineExpired_running {s v : State} {i : SlotId} {t : Slot} {a : SlotAdmission}
    (h : s.slot i = some t) (ha : t.admission = some a) (hr : t.deadlineRunning = true)
    (hv : v = ((s.reachTime a.deadline).setSlot i
      (some { t.failPending .deadline with deadlineRunning := false })).reportFailures t.pendingLinks .deadline) :
    s.deadlineExpired i =
      if t.pendingLinks = [] then v
      else if t.state = .opened then v.reportPoint i .deadline
      else v.afterChange i := by
  simp only [State.deadlineExpired, h, ha, if_pos hr, hv, List.isEmpty_iff]
  cases t.state <;> rfl

/-- Settles O32: the failure reports written out as a list, and each branch of the two operations. -/
theorem poisonAndDeadlineFailPending : Obligations.PoisonAndDeadlineFailPending := by
  unfold Obligations.PoisonAndDeadlineFailPending
  refine ⟨fun s i g seq hs => ?_, fun s i t a hs h ha hr => ?_⟩
  · cases hm : s.matchSlot i g seq with
    | none => exact poisoningReport_completes hs (State.poison_unmatched hm)
    | some t =>
      have hfirst := fun hp => State.poison_first (s := s.taken (.poisoningReport i g seq)) hm hp
        (State.reportFailures_eq ..).symm
      dsimp only
      split
      next hp => exact poisoningReport_completes hs (State.poison_again hm hp)
      next hp =>
        split
        next ho => exact poisoningReport_completes hs ((hfirst hp).trans (if_pos ho))
        next ho => exact poisoningReport_completes hs ((hfirst hp).trans (if_neg ho))
  · have hv := State.deadlineExpired_running h ha hr (State.reportFailures_eq ..).symm
    dsimp only
    split
    next hf => exact orderDeadlineExpiry_completes hs (hv.trans (if_pos hf))
    next hf =>
      split
      next ho => exact orderDeadlineExpiry_completes hs (hv.trans ((if_neg hf).trans (if_pos ho)))
      next ho => exact orderDeadlineExpiry_completes hs (hv.trans ((if_neg hf).trans (if_neg ho)))

end Sys2Proof.Machine
end

section
/-! PROOFS. The transmitters: a frame gone out, a frame read and what follows it, the choice of the next frame, and the
bytes and words of a payload. -/

open Sys2Proof Sys2Proof.Machine

namespace Sys2Proof.Machine

/-! ### Frame reads (R59, R60, R127) -/

/-- FRAME_GONE_OUT completes with the transmitter free (R124). -/
theorem frameGoneOut_completes {s : State} (m : LinkId) (hs : s.mirrorSound) :
    Completes (.frameGoneOut m) s (s.setLink m { s.link m with sending := none }) :=
  completes_operation (s.frameOut m) hs rfl (by simp) rfl

/-- FRAME_READ completes at what the link engine and the store make of the read. -/
theorem frameRead_completes {s u : State} {m : LinkId} {upsets : List Nat} (hs : s.mirrorSound)
    (hu : s.frameReadDone m upsets = u) : Completes (.frameRead m upsets) s u :=
  completes_operation _ hs rfl (by simp) hu

/-- The build of an entry is abandoned with it (R127). -/
theorem LinkEngine.abandonBuild_of_data {l : LinkEngine} {e : DataEntry} (h : l.build = some (.data e)) :
    l.abandonBuild (· == .data e) = { l with build := none } := by
  simp only [LinkEngine.abandonBuild, h, BEq.rfl, if_true]

/-- An entry that is being built leaves the queue with its build and its notice (R126, R127). -/
theorem State.leaveQueue_of_build {s : State} {m : LinkId} {e : DataEntry} (h : (s.link m).build = some (.data e)) :
    s.leaveQueue m e =
      (s.setLink m { s.link m with build := none, queue := (s.link m).queue.erase e }).send
        (.leftQueueNotice e.slot e.group e.seq m) := by
  simp only [State.leaveQueue, State.modLink, LinkEngine.abandonBuild_of_data h, DataEntry.notice]

/-- A frame read with no WRITE being built changes nothing (log 4). -/
theorem State.frameReadDone_no_write {s : State} {m : LinkId} (upsets : List Nat)
    (h : ∀ e, (s.link m).build ≠ some (.data e)) : s.frameReadDone m upsets = s := by
  simp only [State.frameReadDone]
  split
  next e he => exact absurd he (h e)
  next => rfl
  next => rfl

/-- A frame read of a WRITE whose slot does not match: the entry leaves (log 24). -/
theorem State.frameReadDone_unmatched {s : State} {m : LinkId} {e : DataEntry} (upsets : List Nat)
    (h : (s.link m).build = some (.data e)) (hm : s.matchSlot e.slot e.group e.seq = none) :
    s.frameReadDone m upsets = s.leaveQueue m e := by
  simp only [State.frameReadDone, h, hm]

/-- A frame read of the WRITE being built: the store takes the upsets, and then the WRITE is sent or, at the first word
that fails, the read is answered FAULT (R59, R127). -/
theorem State.frameReadDone_of_match {s : State} {m : LinkId} {e : DataEntry} {t : Slot} (upsets : List Nat)
    (h : (s.link m).build = some (.data e)) (hm : s.matchSlot e.slot e.group e.seq = some t) :
    let r := s.modStore fun p => p.upset (payloadWords t.blocks t.length) upsets
    s.frameReadDone m upsets = (r.store.badWord t.blocks t.length).elim (r.sendWrite m e t) (r.readFault m e) := by
  simp only [State.frameReadDone, h, hm]
  cases ((s.modStore fun p => p.upset (payloadWords t.blocks t.length) upsets).store.badWord t.blocks t.length) <;> rfl

/-- A parity failure in a block that is quarantined already (R60). -/
theorem State.parityFailure_known {s : State} {b : BlockId} (h : s.store.quarantine.contains b = true) (i : SlotId)
    (g : GroupId) (seq : Seq) :
    s.parityFailure b i g seq = (s.raise .storeFault).send (.poisoningReport i g seq) := by
  simp only [State.parityFailure, h, if_true]

/-- A parity failure in a block that is not quarantined yet (R60). -/
theorem State.parityFailure_new {s : State} {b : BlockId} (h : ¬ s.store.quarantine.contains b = true) (i : SlotId)
    (g : GroupId) (seq : Seq) :
    s.parityFailure b i g seq =
      ((({ s with store := { s.store with quarantine := s.store.quarantine ++ [b] } }.raise .storeFault).send
        (.poisoningReport i g seq)).send .quarantineNotice) := by
  simp only [State.parityFailure, if_neg h, State.modStore]

/-! ### The choice of the next frame (R123) -/

/-- A member is in service when it is not FENCED. -/
theorem Health.inService_eq (h : Health) : h.inService = decide (h ≠ .fenced) := by
  cases h <;> rfl

/-- An entry is eligible with credits left, its group's gate OPEN and its member in service (R123). -/
theorem LinkEngine.eligible_eq (l : LinkEngine) (h : Health) :
    l.eligible h = fun e => decide (0 < l.credits) && !l.gates[e.group.val].awaiting && decide (h ≠ .fenced) := by
  funext e
  rw [LinkEngine.eligible, Health.inService_eq]

/-- Nothing is chosen while a frame is built or sent (R123). -/
theorem LinkEngine.choose_busy {l : LinkEngine} (h : Health) (hb : l.sending.isSome ∨ l.build.isSome) :
    l.choose h = l := by
  refine if_neg fun ⟨hs, hbuild⟩ => ?_
  rw [Option.isNone_iff_eq_none] at hs hbuild
  simp [hs, hbuild] at hb

/-- A free transmitter with no build in progress takes its choice (R123). -/
theorem LinkEngine.choose_free {l : LinkEngine} (h : Health) (hb : ¬ (l.sending.isSome ∨ l.build.isSome)) :
    l.choose h = { l with build := l.choice h } := by
  refine if_pos ?_
  simpa using hb

/-- What an UP link chooses: the control frames in R123's order, then the first eligible entry. -/
theorem LinkEngine.chooseUp_eq (l : LinkEngine) (h : Health) :
    l.chooseUp h =
      if l.probePending then some (.control .probe)
      else if l.fencePending then some (.control .fence)
      else if l.rejoinPending then some (.control .rejoin)
      else l.epochDue.elim
        (if l.notePending then some (.control .note) else (l.queue.find? (l.eligible h)).map .data)
        fun g => some (.control (.epoch g)) := by
  simp only [LinkEngine.chooseUp, LinkEngine.controlDue]
  cases l.epochDue with
  | some g => cases l.probePending <;> cases l.fencePending <;> cases l.rejoinPending <;> rfl
  | none =>
    cases l.probePending <;> cases l.fencePending <;> cases l.rejoinPending <;> cases l.notePending <;> rfl

/-- What a link chooses by its state (R123). -/
theorem LinkEngine.choice_eq (l : LinkEngine) (h : Health) :
    l.choice h =
      if l.state = .training then (if l.helloPending then some (.control .hello) else none)
      else if l.state ≠ .up then none
      else l.chooseUp h := by
  simp only [LinkEngine.choice]
  cases l.state <;> rfl

/-! ### The bytes and the words of a payload (R19, R59) -/

/-- The payload has its length. -/
@[simp] theorem PayloadStore.payload_length (p : PayloadStore) (blocks : List BlockId) (length : Nat) :
    (p.payload blocks length).length = length := by
  simp [PayloadStore.payload]

/-- The words of a payload are as many as its length needs. -/
@[simp] theorem payloadWords_length (blocks : List BlockId) (length : Nat) :
    (payloadWords blocks length).length = (length + 7) / 8 := by
  simp [payloadWords]

/-- Byte `i` of a payload lies in entry i / 256 of the block list (R19). -/
theorem PayloadStore.payload_getElem? (p : PayloadStore) {blocks : List BlockId} {length i : Nat} {b : BlockId}
    (hi : i < length) (hb : blocks[i / 256]? = some b) :
    (p.payload blocks length)[i]? = some (p.byte b (i % 256)) := by
  simp [PayloadStore.payload, PayloadStore.payloadByte, hi, hb]

/-- Word `i` of a payload lies in entry i / 32 of the block list (R59). -/
theorem payloadWords_getElem? {blocks : List BlockId} {length i : Nat} {b : BlockId} (hi : i < (length + 7) / 8)
    (hb : blocks[i / 32]? = some b) : (payloadWords blocks length)[i]? = some (32 * b.val + i % 32) := by
  simp [payloadWords, Config.blockWords, hi, hb]

/-- A word added to the list is there, with those that were. -/
theorem mem_insertWord (words : List Nat) (w v : Nat) : v ∈ insertWord words w ↔ v = w ∨ v ∈ words := by
  induction words with
  | nil => simp [insertWord]
  | cons x rest ih =>
    rw [insertWord]
    split
    next => exact List.mem_cons
    next =>
      split
      next heq =>
        rw [List.mem_cons, heq]
        exact ⟨.inr, fun h => h.elim .inl id⟩
      next => rw [List.mem_cons, List.mem_cons, ih, or_left_comm]

/-- Settles O34: each row from its operation's branch, and the choice from its order of cases. -/
theorem transmitterEvents : Obligations.TransmitterEvents := by
  unfold Obligations.TransmitterEvents
  refine ⟨fun s m => frameGoneOut_completes m, fun s m upsets e t hs h hm => ?_, fun s m upsets hs => ?_,
    fun s m => ⟨rfl, s.chooseAll_link m⟩, fun l h => ?_,
    fun p blocks length => ⟨p.payload_length blocks length, payloadWords_length blocks length,
      fun _ _ => p.payload_getElem?, fun _ _ => payloadWords_getElem?⟩,
    mem_insertWord⟩
  · have hread := State.frameReadDone_of_match upsets h hm
    have hleave := fun p => State.leaveQueue_of_build (s := s.modStore p) h
    dsimp only
    split
    next hw =>
      exact frameRead_completes hs (hread.trans (congrArg (fun o => Option.elim o _ _) hw))
    next word hw =>
      have hfault := hread.trans (congrArg (fun o => Option.elim o _ _) hw)
      simp only [Option.elim_some, State.readFault, hleave] at hfault
      split
      next hq => exact frameRead_completes hs (hfault.trans (State.parityFailure_known (by exact hq) ..))
      next hq => exact frameRead_completes hs (hfault.trans (State.parityFailure_new (by exact hq) ..))
  · dsimp only
    split
    next hb => exact frameRead_completes hs (State.frameReadDone_no_write upsets (by simp [hb]))
    next c hb => exact frameRead_completes hs (State.frameReadDone_no_write upsets (by simp [hb]))
    next e hb =>
      exact fun hm => frameRead_completes hs
        ((State.frameReadDone_unmatched upsets hb hm).trans (State.leaveQueue_of_build hb))
  · dsimp only
    by_cases hb : l.sending.isSome ∨ l.build.isSome
    · rw [if_pos hb, LinkEngine.choose_busy h hb]
    · rw [if_neg hb, LinkEngine.choose_free h hb, LinkEngine.choice_eq, LinkEngine.chooseUp_eq, LinkEngine.eligible_eq,
        LinkEngine.epochDue]
      cases allGroups.find? (fun g => l.gates[g.val].epochPending) with
      | some g => rfl
      | none => cases l.queue.find? _ <;> rfl

end Sys2Proof.Machine
end

section
/-! PROOFS. The loader: what a piece read that completes makes of the store, and how the next load begins. -/

open Sys2Proof Sys2Proof.Machine

namespace Sys2Proof.Machine

/-! ### Requests for pieces (R54, R101) -/

/-- A list of the length asked for is neither cut nor filled. -/
theorem padTo_of_length {n : Nat} {bs : List Byte} (h : bs.length = n) : padTo n bs = bs := by
  simp [padTo, zeros, h, List.take_of_length_le]

/-- A request is refused when its last byte lies at or above 2^48 (R101). -/
theorem MemRequest.refused_iff (r : MemRequest) : r.refused = true ↔ 2 ^ 48 ≤ r.addr.toNat + r.len - 1 :=
  decide_eq_true_iff

/-- The first piece of a payload is its first 256 bytes, or all of them where they are fewer (R54). -/
theorem pieceLength_zero (length : Nat) : pieceLength length 0 = if 256 < length then 256 else length := by
  have hmore : 0 + 1 < blocksNeeded length ↔ 256 < length := by rw [blocksNeeded]; omega
  by_cases h : 256 < length
  · rw [pieceLength, if_pos (hmore.2 h), if_pos h, Config.blockBytes]
  · have hone : blocksNeeded length - 1 = 0 := by rw [blocksNeeded]; omega
    rw [pieceLength, if_neg (mt hmore.1 h), if_neg h, hone, Nat.mul_zero, Nat.sub_zero]

/-- The read of the first piece starts at the payload address (R54). -/
theorem Slot.pieceRequest_zero (t : Slot) :
    t.pieceRequest 0 =
      { kind := .piece, addr := t.payloadAddr, len := if 256 < t.length then 256 else t.length, data := []
        abandoned := false } := by
  have hz : t.payloadAddr + BitVec.ofNat 64 (Config.blockBytes * 0) = t.payloadAddr := BitVec.add_zero _
  rw [Slot.pieceRequest, readRequest, pieceLength_zero, hz]

/-! ### Beginning a load (R53, R54) -/

/-- A slot that is FREE is passed over. -/
theorem State.beginLoads_free {s : State} {i : SlotId} (rest : List SlotId) (h : s.slot i = none) :
    State.beginLoads (i :: rest) s = State.beginLoads rest s := by
  simp only [State.beginLoads, h]

/-- The load of the queue's head begins with its first piece, or ends at once where that is refused (R54, R57, R101). -/
theorem State.beginLoads_of_slot {s : State} {i : SlotId} {t : Slot} (rest : List SlotId) (h : s.slot i = some t) :
    State.beginLoads (i :: rest) s =
      if 2 ^ 48 ≤ (t.pieceRequest 0).addr.toNat + (t.pieceRequest 0).len - 1 then
        State.beginLoads rest ((s.setLoad rest none).reportPoint i .hostReadFault)
      else (s.setLoad (i :: rest) (some { piece := 0, crc := crcInit })).ask (t.pieceRequest 0) := by
  rw [State.beginLoads, h]
  exact ite_congr (propext (t.pieceRequest 0).refused_iff) (fun _ => rfl) (fun _ => rfl)

/-- Loads that begin leave the words that disagree with their parity. -/
@[simp] theorem State.beginLoads_badWords (queue : List SlotId) (s : State) :
    (State.beginLoads queue s).store.badWords = s.store.badWords := by
  induction queue generalizing s with
  | nil => rfl
  | cons i rest ih =>
    cases h : s.slot i with
    | none => rw [State.beginLoads_free rest h, ih]
    | some t =>
      rw [State.beginLoads_of_slot rest h]
      split
      · rw [ih, (State.reportPoint_frame _ i .hostReadFault).2.2.2.2.2.1]; rfl
      · rfl

/-! ### A piece that has arrived (R54 to R57) -/

/-- PIECE_READ completes at what the loader makes of the completion. -/
theorem pieceRead_completes {s u : State} {bytes : Option (List Byte)} (hs : s.mirrorSound)
    (hu : s.pieceDone bytes = u) : Completes (.pieceRead bytes) s u :=
  completes_operation _ hs rfl (by simp) hu

/-- A piece read that completes asks for the next piece. -/
theorem pieceRead_completesAsking {s u : State} {bytes : Option (List Byte)} {r : MemRequest} (hs : s.mirrorSound)
    (hk : r.kind = .piece) (hu : s.pieceDone bytes = u.ask r) : CompletesAsking (.pieceRead bytes) s u r := by
  have hc : r.kind.cls = .payload := by rw [hk]; rfl
  refine completesAsking_of _ rfl (State.mirrorSound_of_eq hs (by simp) (by simp)) ?_ ?_ (by rw [hc]; decide)
  · rw [hu]; exact State.chooseAll_lasting (State.ask_lasting u r)
  · rw [hu, State.ask_writes, hc]; rfl

/-- A read that the loader has not given up, without error (R54). -/
theorem State.pieceDone_arrived {s : State} {q : MemRequest} {i : SlotId} {rest : List SlotId} {t : Slot} {l : Load}
    {bytes : List Byte} (hq : s.port.current = some q) (hk : q.kind = .piece) (ha : q.abandoned = false)
    (hqueue : s.store.loaderQueue = i :: rest) (hload : s.store.load = some l) (ht : s.slot i = some t)
    (hlen : bytes.length = q.len) :
    s.pieceDone (some bytes) = s.freeResource.pieceArrived i rest t l bytes := by
  have hslot : s.freeResource.slot i = some t := ht
  simp only [State.pieceDone, State.completing, hq, hk, if_true, ha, State.freeResource_leaves, hqueue, hload, hslot,
    padTo_of_length hlen, Bool.false_eq_true, if_false]

/-- A read that the loader has not given up, with an error (R57). -/
theorem State.pieceDone_error {s : State} {q : MemRequest} {i : SlotId} {rest : List SlotId} {t : Slot} {l : Load}
    (hq : s.port.current = some q) (hk : q.kind = .piece) (ha : q.abandoned = false)
    (hqueue : s.store.loaderQueue = i :: rest) (hload : s.store.load = some l) (ht : s.slot i = some t) :
    s.pieceDone none = s.freeResource.loadFault i rest := by
  have hslot : s.freeResource.slot i = some t := ht
  simp only [State.pieceDone, State.completing, hq, hk, if_true, ha, State.freeResource_leaves, hqueue, hload, hslot,
    Bool.false_eq_true, if_false]

section Arrived
variable {s : State} {i : SlotId} {rest : List SlotId} {t : Slot} {l : Load} {b : BlockId} {piece : List Byte}

/-- A piece that is not the last, with the next not refused: the next is asked for (R54). -/
theorem State.pieceArrived_next (hb : t.blocks[l.piece]? = some b)
    (hmore : l.piece + 1 < blocksNeeded t.length) (hr : ¬ (t.pieceRequest (l.piece + 1)).refused = true) :
    s.pieceArrived i rest t l piece =
      (({ s with store := s.store.writeBlock b piece }.setLoad (i :: rest)
        (some { piece := l.piece + 1, crc := crcFold l.crc piece })).ask (t.pieceRequest (l.piece + 1))) := by
  simp only [State.pieceArrived, hb, if_pos hmore, if_neg hr, State.modStore]

/-- A piece that is not the last, with the next refused: a load fault (R57, R101). -/
theorem State.pieceArrived_refused (hb : t.blocks[l.piece]? = some b)
    (hmore : l.piece + 1 < blocksNeeded t.length) (hr : (t.pieceRequest (l.piece + 1)).refused = true) :
    s.pieceArrived i rest t l piece = { s with store := s.store.writeBlock b piece }.loadFault i rest := by
  simp only [State.pieceArrived, hb, if_pos hmore, if_pos hr, State.modStore]

/-- The last piece: the load ends (R56). -/
theorem State.pieceArrived_last (hb : t.blocks[l.piece]? = some b)
    (hlast : ¬ l.piece + 1 < blocksNeeded t.length) :
    s.pieceArrived i rest t l piece =
      { s with store := s.store.writeBlock b piece }.loadEnd i t rest (crcFold l.crc piece) := by
  simp only [State.pieceArrived, hb, if_neg hlast, State.modStore]

/-- However the load goes on, the bytes and the parity are those of the written block (R54). -/
theorem State.pieceArrived_store (hb : t.blocks[l.piece]? = some b) :
    (s.pieceArrived i rest t l piece).store.cells = (s.store.writeBlock b piece).cells ∧
      (s.pieceArrived i rest t l piece).store.badWords = (s.store.writeBlock b piece).badWords := by
  by_cases hmore : l.piece + 1 < blocksNeeded t.length
  · by_cases hr : (t.pieceRequest (l.piece + 1)).refused = true
    · rw [State.pieceArrived_refused hb hmore hr]
      simp [State.loadFault, State.setLoad]
    · rw [State.pieceArrived_next hb hmore hr]
      exact ⟨rfl, rfl⟩
  · rw [State.pieceArrived_last hb hmore]
    simp [State.loadEnd, State.setLoad]

end Arrived

/-- Two stores with the same cells read the same bytes. -/
theorem PayloadStore.byte_congr {p q : PayloadStore} (h : p.cells = q.cells) (b : BlockId) (j : Nat) :
    p.byte b j = q.byte b j := by
  simp only [PayloadStore.byte, h]

/-- A word disagrees with its parity after a block is written when it did and lies in another block (R54). -/
theorem PayloadStore.mem_badWords_writeBlock (p : PayloadStore) (b : BlockId) (piece : List Byte) (w : Nat) :
    w ∈ (p.writeBlock b piece).badWords ↔ w ∈ p.badWords ∧ w / 32 ≠ b.val := by
  simp [PayloadStore.writeBlock, Config.blockWords]

/-- Settles O25: the store after the piece, the three ways its load goes on, the load fault, and the next load. -/
theorem pieceReads : Obligations.PieceReads := by
  unfold Obligations.PieceReads
  refine ⟨fun s q i rest t l b bytes hs hstore hq hk ha hqueue hload ht hb hlen => ?_,
    fun s q i rest t l hs hq hk ha hqueue hload ht =>
      pieceRead_completes hs (State.pieceDone_error hq hk ha hqueue hload ht),
    fun u => rfl, fun i rest u => ?_⟩
  · have hdone := State.pieceDone_arrived hq hk ha hqueue hload ht hlen
    intro blocks crc next written
    refine ⟨fun u hu => ?_, ?_⟩
    · obtain rfl : State.finish s (s.pieceDone (some bytes)) = u := Host.Outcome.next.inj hu
      obtain ⟨hcells, hbad⟩ :=
        State.pieceArrived_store (s := s.freeResource) (i := i) (rest := rest) (piece := bytes) hb
      rw [(State.finish_frame s _).2.2.2.1, hdone, hbad]
      refine ⟨fun j hj => ?_, fun c j hc hj => ?_, s.store.mem_badWords_writeBlock b bytes⟩
      · rw [PayloadStore.byte_congr hcells]
        exact s.store.byte_writeBlock_same b bytes j hstore hj
      · rw [PayloadStore.byte_congr hcells]
        exact s.store.byte_writeBlock_other b c bytes j hstore hj hc
    · have hrefused : (t.pieceRequest (l.piece + 1)).refused = true ↔ 2 ^ 48 ≤ next.addr.toNat + next.len - 1 :=
        MemRequest.refused_iff _
      split
      next hmore =>
        split
        next hfits =>
          exact pieceRead_completesAsking hs rfl
            (hdone.trans (State.pieceArrived_next hb hmore fun hr => Nat.not_le.2 hfits (hrefused.1 hr)))
        next hfits =>
          exact pieceRead_completes hs
            (hdone.trans (State.pieceArrived_refused hb hmore (hrefused.2 (Nat.not_lt.1 hfits))))
      next hlast => exact pieceRead_completes hs (hdone.trans (State.pieceArrived_last hb hlast))
  · dsimp only
    cases h : u.slot i with
    | none => exact State.beginLoads_free rest h
    | some t =>
      rw [State.beginLoads_of_slot rest h, Slot.pieceRequest_zero]
      rfl

end Sys2Proof.Machine
end

section
/-! PROOFS. The layouts of chapter 11: byte orders, sets, result areas, frames, entries of a reply, and the CRC. -/

open Sys2Proof Sys2Proof.Machine

namespace Sys2Proof.Machine

/-! ### Orders of bytes -/

/-- Byte `k` of a value, least significant first. -/
theorem toLE_eq_map (n v : Nat) : toLE n v = (List.range n).map fun k => BitVec.ofNat 8 (v / 256 ^ k) := by
  induction n generalizing v with
  | zero => rfl
  | succ n ih =>
    have hlow : BitVec.ofNat 8 (v % 256) = BitVec.ofNat 8 (v / 256 ^ 0) := by
      apply BitVec.eq_of_toNat_eq; simp
    rw [toLE, ih, List.range_succ_eq_map, List.map_cons, List.map_map, hlow]
    simp only [Function.comp_def, Nat.pow_succ', Nat.div_div_eq_div_mul]

/-- As many bytes as were asked for. -/
@[simp] theorem toLE_length (n v : Nat) : (toLE n v).length = n := by
  simp [toLE_eq_map]

/-! ### Sets (R180) -/

/-- A link in a set with one link added. -/
theorem setHas_setInsert (x : MemberSet) (m k : LinkId) : setHas (setInsert x m) k = (setHas x k || k == m) := by
  simp [setHas, setInsert, Fin.ext_iff, eq_comm, Bool.beq_eq_decide_eq]

/-- A link in a set with one link taken out. -/
theorem setHas_setErase (x : MemberSet) (m k : LinkId) : setHas (setErase x m) k = (setHas x k && k != m) := by
  simp [setHas, setErase, Fin.ext_iff, eq_comm, bne, Bool.beq_eq_decide_eq]

/-- A link in a set to which the links of a list that pass a test are added. -/
theorem setHas_foldl_setInsert (p : LinkId → Bool) (l : List LinkId) (x : MemberSet) (k : LinkId) :
    setHas (l.foldl (fun acc m => if p m then setInsert acc m else acc) x) k = (setHas x k || l.contains k && p k) := by
  induction l generalizing x with
  | nil => simp
  | cons m l ih =>
    rw [List.foldl_cons, ih, List.contains_cons]
    by_cases hk : k = m
    · subst hk; cases hp : p k <;> simp [setHas_setInsert]
    · have hbeq : (k == m) = false := beq_false_of_ne hk
      cases hp : p m <;> simp [setHas_setInsert, hbeq]

/-- The set of the links that pass a test. -/
theorem setHas_setOf (p : LinkId → Bool) (m : LinkId) : setHas (Machine.setOf p) m = p m := by
  rw [Machine.setOf, setHas_foldl_setInsert, List.contains_iff_mem.2 (mem_allLinks m)]
  simp [setHas]

/-- A group in a mask to which the groups of a list are added. -/
theorem getLsbD_foldl_twoPow (gs : List GroupId) (x : GroupSet) (g : GroupId) :
    (gs.foldl (fun acc k => acc ||| BitVec.twoPow 16 k.val) x).getLsbD g.val = (x.getLsbD g.val || gs.contains g) := by
  induction gs generalizing x with
  | nil => simp
  | cons k gs ih =>
    rw [List.foldl_cons, ih, List.contains_cons]
    simp [Fin.ext_iff, Bool.or_assoc, Bool.beq_eq_decide_eq]

/-! ### Result areas (R68) -/

/-- A list that is not too long is filled with zero bytes. -/
theorem padTo_of_le {n : Nat} {bs : List Byte} (h : bs.length ≤ n) :
    padTo n bs = bs ++ List.replicate (n - bs.length) 0 := by
  rw [padTo, List.take_of_length_le h, zeros]

/-- The 48 bytes of a result area: its fields, and zero bytes for the rest (R68). -/
theorem ResultArea.bytes_of_length {r : ResultArea} {n : Nat} (h : r.fields.length + n = 48) :
    r.bytes = r.fields ++ List.replicate n 0 := by
  rw [ResultArea.bytes, padTo_of_le (by omega), show 48 - r.fields.length = n by omega]

/-- The results of a slot, link by link. -/
theorem results_toList (results : Vector MemberResult 8) :
    results.toList = allLinks.map fun m => results[m.val] := by
  have hl : allLinks = List.finRange 8 := by decide
  rw [hl]
  apply List.ext_getElem <;> simp

/-- The entries of a result area take 4 bytes each. -/
theorem entries_length (values : List Seq) : (values.flatMap fun v => toLE 4 v.toNat).length = 4 * values.length := by
  induction values with
  | nil => rfl
  | cons v values ih =>
    rw [List.flatMap_cons, List.length_append, toLE_length, ih, List.length_cons]
    omega

/-- The entries of a result area, at most 11, fit behind its first 4 bytes. -/
theorem entries_length_le (values : List Seq) :
    ((values.take 11).flatMap fun v => toLE 4 v.toNat).length ≤ 44 := by
  rw [entries_length, List.length_take]
  omega

/-! ### Entries of a REJOIN_REPLY, and the CRC -/

/-- A byte behind other bits is the low byte of the value. -/
theorem toNat_append_byte {n : Nat} (x : BitVec n) (b : Byte) : (x ++ b).toNat = 256 * x.toNat + b.toNat := by
  rw [BitVec.toNat_append, ← Nat.shiftLeft_add_eq_or_of_lt b.isLt, Nat.shiftLeft_eq]
  omega

/-- Four bytes read most significant first are their concatenation. -/
theorem ofBE_four (a b c d : Byte) : BitVec.ofNat 32 (ofBE [a, b, c, d]) = (a ++ b ++ c ++ d : BitVec 32) := by
  apply BitVec.eq_of_toNat_eq
  have hcat : (a ++ b ++ c ++ d).toNat = ofBE [a, b, c, d] := by
    simp only [toNat_append_byte, ofBE, ofLE, List.reverse_cons, List.reverse_nil, List.nil_append, List.cons_append]
    omega
  have hlt : ofBE [a, b, c, d] < 2 ^ 32 := hcat ▸ (a ++ b ++ c ++ d).isLt
  rw [BitVec.toNat_ofNat, Nat.mod_eq_of_lt hlt, ← hcat]

/-- A body of fewer than 8 bytes holds no entry. -/
theorem replyEntries_short {body : List Byte} (h : body.length < 8) : replyEntries body = [] := by
  rw [replyEntries]
  rintro g x y z a b c d rest rfl
  simp only [List.length_cons] at h
  omega

/-- Settles O56: each layout from the definition that writes it. -/
theorem recordAndFrameFormats : Obligations.RecordAndFrameFormats := by
  unfold Obligations.RecordAndFrameFormats
  refine ⟨fun v => ?_, ⟨rfl, fun b bs => ⟨rfl, rfl⟩⟩,
    fun x m k => ⟨rfl, setHas_setInsert x m k, setHas_setErase x m k, rfl⟩, setHas_setOf, fun gs g => ?_,
    fun seq settle epoch snapshot results => ?_, rfl, fun epoch => ?_, fun groups w deciding values => ?_,
    fun targets marks => ?_, fun reply h => ?_, rfl, fun rec => ?_, fun bytes => ⟨rfl, rfl, rfl, rfl, rfl⟩,
    fun f => ?_, fun e => rfl, fun g x y z a b c d rest => ?_, fun body => replyEntries_short, rfl,
    fun reg b bytes => ⟨rfl, rfl⟩, by decide +kernel⟩
  · exact ⟨toLE_eq_map 2 v, toLE_eq_map 4 v, congrArg List.reverse (toLE_eq_map 2 v),
      congrArg List.reverse (toLE_eq_map 4 v), toLE_eq_map 8 v, congrArg List.reverse (toLE_eq_map 8 v)⟩
  · exact (getLsbD_foldl_twoPow gs 0 g).trans (by simp)
  · have hlen : (ResultArea.commit seq epoch snapshot results settle).fields.length + 28 = 48 := by
      simp [ResultArea.fields]
    rw [ResultArea.bytes_of_length hlen, ResultArea.fields, results_toList, List.map_map]
    rfl
  · exact ResultArea.bytes_of_length (by simp [ResultArea.fields])
  · have hle := entries_length_le values
    exact ResultArea.bytes_of_length (by
      simp only [ResultArea.fields, Config.maxResultEntries, List.length_append, toLE_length, List.length_cons,
        List.length_nil]
      omega)
  · have hle := entries_length_le marks
    exact ResultArea.bytes_of_length (by
      simp only [ResultArea.fields, Config.maxResultEntries, List.length_append, toLE_length, zeros,
        List.length_replicate]
      omega)
  · exact ResultArea.bytes_of_length (by
      simp only [ResultArea.fields, List.length_cons, List.length_append, zeros, List.length_replicate]
      omega)
  · exact ⟨rfl, rfl, rfl, rfl, rfl, rfl, rfl, rfl, rfl, rfl⟩
  · simp [Frame.bytes, Frame.check, Frame.covered]
  · rw [replyEntries, ofBE_four]

end Sys2Proof.Machine
end

section
/-! PROOFS. The payload store and the requests at its port: every step keeps the store's bytes canonical, the answers
to a fit query, and a walk request that outlives what asked for it. -/

open Sys2Proof Sys2Proof.Machine

namespace Sys2Proof.Machine

/-! ### What a step can do -/

/-- A step is the meaning of one command on the state with some rest of its queue, the send of a built control frame, or
the passing of a microsecond. -/
theorem step_cases {s t : State} (h : step s = .next t) :
    (∃ c rest, exec c { s with pending := rest } = .next t) ∨ (∃ m, t = s.sendDue m) ∨ t = s.tick := by
  simp only [step] at h
  split at h
  next c rest _ => exact .inl ⟨c, rest, h⟩
  next =>
    split at h
    next c _ => exact .inl ⟨c, s.pending, h⟩
    next m _ => exact .inr (.inl ⟨m, (Host.Outcome.next.inj h).symm⟩)
    next => exact .inr (.inr (Host.Outcome.next.inj h).symm)

/-! ### The canonical form of the store's bytes (R48, R54, R62) -/

/-- What leaves the store's bytes keeps their form. -/
theorem State.storeSound_of_cells {s v : State} (hs : s.storeSound) (h : v.store.cells = s.store.cells) :
    v.storeSound := by
  simpa only [State.storeSound, h] using hs

/-- The end of an event keeps the form. -/
theorem State.finish_storeSound {before v : State} (hv : v.storeSound) : (State.finish before v).storeSound :=
  State.storeSound_of_cells hv (by rw [(State.finish_frame before v).2.2.2.1])

/-- Delivered bytes leave the store: it is the loader that writes payloads. -/
@[simp] theorem State.deliver_store (s : State) (m : LinkId) (bytes : List Byte) :
    (s.deliver m bytes).store = s.store := by
  simp only [State.deliver]
  split <;> simp

/-- A piece that has arrived is written to a block of the store, or to none (R54). -/
theorem State.pieceArrived_storeSound {s : State} (hs : s.storeSound) (i : SlotId) (rest : List SlotId) (t : Slot)
    (l : Load) (piece : List Byte) : (s.pieceArrived i rest t l piece).storeSound := by
  cases hb : t.blocks[l.piece]? with
  | none =>
    refine State.storeSound_of_cells hs ?_
    simp only [State.pieceArrived, hb]
    (repeat' split) <;> simp
  | some b =>
    simp only [State.storeSound, (State.pieceArrived_store hb).1]
    exact s.store.writeBlock_wf b piece hs

/-- A piece read that completes keeps the form, whether it has arrived, has failed or is discarded (R54, R57, R58). -/
theorem State.pieceDone_storeSound {s : State} (hs : s.storeSound) (bytes : Option (List Byte)) :
    (s.pieceDone bytes).storeSound := by
  have hfree : s.freeResource.storeSound := hs
  simp only [State.pieceDone]
  split
  next => exact hs
  next =>
    split
    next => exact hfree
    next =>
      split
      next =>
        split
        next => exact State.pieceArrived_storeSound hfree ..
        next => exact State.storeSound_of_cells hfree (State.loadFault_frame ..).2.2.2.2.2.1
        next => exact hfree
      next => exact hfree

/-- A reset of the part clears the store (R62, R176). -/
theorem State.powerOn_storeSound (s : State) : s.powerOn.storeSound := reset_wf

/-- Every command keeps the form: a piece read writes a block, the two resets of the part clear the store, and no other
row changes the store's bytes. -/
theorem exec_storeSound {s t : State} {c : Instr} (hs : s.storeSound) (h : exec c s = .next t) : t.storeSound := by
  cases c with
  | powerOnReset | portReset =>
    obtain rfl := Host.Outcome.next.inj h
    exact State.finish_storeSound s.powerOn_storeSound
  | pieceRead bytes =>
    obtain rfl := Host.Outcome.next.inj h
    exact State.finish_storeSound (State.pieceDone_storeSound hs bytes)
  | _ =>
    obtain rfl := Host.Outcome.next.inj h
    exact State.finish_storeSound (State.storeSound_of_cells hs (by simp))

/-- Settles O57: by what a step can do; the send of a control frame and the passing of time leave the store. -/
theorem storeStaysCanonical : Obligations.StoreStaysCanonical := by
  unfold Obligations.StoreStaysCanonical
  intro s t hs hstep
  obtain ⟨c, rest, hexec⟩ | ⟨m, rfl⟩ | rfl := step_cases hstep
  · have hrest : State.storeSound { s with pending := rest } := hs
    exact exec_storeSound hrest hexec
  · exact State.storeSound_of_cells hs (by rw [(s.sendDue_frame m).2.2.1])
  · exact hs

/-! ### The fit query (R50) -/

/-- Settles O48: the branches of the fit query are R50's conditions in their order, with the numbers of the part. -/
theorem fitQueryAnswers : Obligations.FitQueryAnswers := by
  unfold Obligations.FitQueryAnswers
  intro p length need
  rfl

/-! ### A walk request that outlives what asked for it (R84, R88, R148) -/

/-- A POSTED READMIT of member 0. -/
def postedReadmit : Record :=
  { state := statePosted, kind := 0x06, flags := 0, outcome := 0, tag := 0, next := 0, params := zeros 64 }

/-- A walk whose TAKEN write of a READMIT is in flight with one report place free, while an EXCLUDE is under way whose
three requests have been taken. No request waits. -/
def claimingReadmit : State :=
  { State.reset with
    port :=
      { SystemPort.reset with run := .running, current := some (writeRequest .takenWrite 0x1080 [stateTaken]) }
    chain :=
      { ChainReader.reset with
        state := .fetching, walk := .takenWrite, pendingPosts := 2, walkPointer := 0x1000, anchor := true
        fetchAddr := some 0x1080, fetched := some postedReadmit, reserved := 63
        excluding := some { order := 0x800, member := 0 } } }

/-- Refutes O55, in its clause that a request that waits afterwards waited before or is what its requester now waits for.
The dispatch of the READMIT reports the EXCLUDE, and with it the walk goes on: it takes the last report place and asks
for the next field. When the dispatch has been taken the walk goes on again and, with no place left, waits for one; the
request for the next field stays at the arbiter behind the report's write. -/
theorem not_requestsStayUntilTheyComplete : ¬ Obligations.RequestsStayUntilTheyComplete := by
  unfold Obligations.RequestsStayUntilTheyComplete
  intro h
  have hwaits : (State.finish claimingReadmit (claimingReadmit.takenDone true)).port.waitWalk =
      some (readRequest .nextField 0x1088 8) := by decide +kernel
  have hwalk : (State.finish claimingReadmit (claimingReadmit.takenDone true)).chain.walk = .awaitFetch := by
    decide +kernel
  obtain ⟨-, -, hcomes, -⟩ := h claimingReadmit _ (.takenWrite true) rfl
  obtain hbefore | ⟨⟨hreading, -⟩, -⟩ := hcomes .walk _ hwaits
  · have hnone : claimingReadmit.port.waitWalk = none := rfl
    exact absurd (hnone.symm.trans hbefore) (by decide)
  · exact absurd (hwalk.symm.trans hreading) (by decide)

end Sys2Proof.Machine
end

section
/-! PROOFS. The link engines' requests and answers: what a link's data queue makes of a data entry and of a RETRY
answer, the gates with their EPOCH exchange, and the membership unit's requests at a link. -/

open Sys2Proof Sys2Proof.Machine

namespace Sys2Proof.Machine

/-! ### Completion in two cases -/

/-- A command that completes at one state where a condition holds, and at another where it does not. -/
theorem completes_ite {p : Prop} [Decidable p] {c : Instr} {s u v : State} (hu : p → Completes c s u)
    (hv : ¬ p → Completes c s v) : if p then Completes c s u else Completes c s v := by
  split
  next h => exact hu h
  next h => exact hv h

/-! ### The data queue (R125, R130) -/

/-- A link takes data entries when it is UP and its member is in service. -/
theorem State.takesEntries_iff (s : State) (m : LinkId) :
    s.takesEntries m = true ↔ (s.link m).state = .up ∧ (s.member m).health ≠ .fenced := by
  rw [State.takesEntries, Health.inService_eq, Bool.and_eq_true, beq_iff_eq, decide_eq_true_iff]

/-- What a retransmission does not stand behind: an unmarked entry, or one of its own group with a higher sequence
(R125). -/
theorem DataEntry.ahead_eq_false_iff (g : GroupId) (seq : Seq) (e : DataEntry) :
    e.ahead g seq = false ↔ e.retransmission = false ∨ (e.group = g ∧ seq < e.seq) := by
  rw [DataEntry.ahead, Bool.and_eq_false_iff, Bool.not_eq_false', Bool.and_eq_true, beq_iff_eq, decide_eq_true_iff]

/-- A retransmission's place: behind the entries ahead of it, before the first that is not. -/
theorem placeRetransmission_append {e : DataEntry} {front back : List DataEntry}
    (hfront : front.all (DataEntry.ahead e.group e.seq) = true)
    (hback : ∀ d, back.head? = some d → d.ahead e.group e.seq = false) :
    placeRetransmission e (front ++ back) = front ++ e :: back := by
  have hstop : back.takeWhile (DataEntry.ahead e.group e.seq) = [] := by
    cases back with
    | nil => rfl
    | cons d rest => rw [List.takeWhile_cons, hback d rfl]; rfl
  have htake : (front ++ back).takeWhile (DataEntry.ahead e.group e.seq) = front := by
    rw [List.takeWhile_append_of_pos (List.all_eq_true.1 hfront), hstop, List.append_nil]
  rw [placeRetransmission, htake, List.drop_left]

/-- DATA_ENTRY completes at what the link makes of the entry. -/
theorem dataEntry_completes {s u : State} {m : LinkId} {i : SlotId} {g : GroupId} {seq : Seq} (hs : s.mirrorSound)
    (hu : (s.taken (.dataEntry m i g seq)).takeDataEntry m i g seq = u) : Completes (.dataEntry m i g seq) s u :=
  completes_operation _ hs rfl (by simp) hu

/-- RETRY_ANSWER completes at what the link makes of the answer. -/
theorem retryAnswer_completes {s u : State} {m : LinkId} {i : SlotId} {g : GroupId} {seq : Seq} {retry : Bool}
    (hs : s.mirrorSound)
    (hu : (s.taken (.retryAnswer m i g seq retry)).takeRetryAnswer m i g seq retry = u) :
    Completes (.retryAnswer m i g seq retry) s u :=
  completes_operation _ hs rfl (by simp) hu

/-- Settles O33: by whether the link takes entries, and the retransmission's place by where the queue is cut. -/
theorem dataEntriesPlacedOrRefused : Obligations.DataEntriesPlacedOrRefused := by
  unfold Obligations.DataEntriesPlacedOrRefused
  refine ⟨fun s seq m i g hs => ?_, fun s m i g seq hs => ⟨?_, fun hrefused => ?_, fun hup hhealth => ?_⟩⟩
  · have htakes := (s.taken (.dataEntry m i g seq)).takesEntries_iff m
    exact completes_ite (fun h => dataEntry_completes hs (if_pos (htakes.2 h)))
      fun h => dataEntry_completes hs (if_neg (mt htakes.1 h))
  · exact retryAnswer_completes hs rfl
  · refine retryAnswer_completes hs (if_neg (mt (State.takesEntries_iff _ m).1 ?_))
    exact fun ⟨hup, hhealth⟩ => hrefused.elim (· hup) hhealth
  · intro front back hqueue hfront hback
    have hplace := placeRetransmission_append
      (e := { slot := i, group := g, seq := seq, retransmission := true }) hfront
      fun d hd => (d.ahead_eq_false_iff g seq).2 (hback d hd)
    refine retryAnswer_completes hs ((if_pos ((State.takesEntries_iff _ m).2 ⟨hup, hhealth⟩)).trans ?_)
    rw [← hplace, ← hqueue]
    rfl

/-! ### Builds and gates (R127, R133) -/

/-- What is being built once the builds of a test are abandoned. -/
def LinkEngine.buildWithout (l : LinkEngine) (drop : Build → Bool) : Option Build :=
  match l.build with
  | none => none
  | some b => if drop b then none else some b

/-- Writing what a link is building already changes nothing. -/
theorem LinkEngine.write_own_build {l : LinkEngine} {build : Option Build} (h : l.build = build) :
    { l with build := build } = l := h ▸ rfl

/-- Abandoning writes the build alone. -/
theorem LinkEngine.abandonBuild_eq (l : LinkEngine) (drop : Build → Bool) :
    l.abandonBuild drop = { l with build := l.buildWithout drop } := by
  cases hb : l.build with
  | none => simp only [LinkEngine.abandonBuild, LinkEngine.buildWithout, hb, LinkEngine.write_own_build hb]
  | some b =>
    simp only [LinkEngine.abandonBuild, LinkEngine.buildWithout, hb]
    cases drop b with
    | true => rfl
    | false => exact (LinkEngine.write_own_build hb).symm

/-- Once one control frame is abandoned nothing is being built, or what was being built is another. -/
theorem LinkEngine.buildWithout_isControl (l : LinkEngine) (c : ControlFrame) :
    l.buildWithout (Build.isControl c) = if l.build = some (.control c) then none else l.build := by
  rw [LinkEngine.buildWithout]
  cases l.build with
  | none => rfl
  | some b => cases b <;> simp [Build.isControl]

/-- No build is abandoned for a test that nothing meets. -/
theorem LinkEngine.abandonBuild_false (l : LinkEngine) : (l.abandonBuild fun _ => false) = l := by
  rw [LinkEngine.abandonBuild]
  cases l.build <;> rfl

/-- A build is the EPOCH of a group exactly when it is that control frame. -/
theorem Build.isEpochOf_eq (g : GroupId) (b : Build) : b.isEpochOf g = (b == .control (.epoch g)) := by
  cases b with
  | data e => rfl
  | control c =>
    rw [Bool.eq_iff_iff, beq_iff_eq]
    cases c <;> simp [Build.isEpochOf]

/-- A link with one gate written and the builds of a test abandoned: the form of every change of a gate (R133). -/
def State.setGate (s : State) (m : LinkId) (g : GroupId) (x : Gate) (drop : Build → Bool) : State :=
  s.setLink m
    { s.link m with
      gates := (s.link m).gates.set g.val x
      build := (s.link m).buildWithout drop }

/-- A change of a gate that abandons builds, in that form. -/
theorem State.modLink_abandonBuild_modGate (s : State) (m : LinkId) (g : GroupId) (f : Gate → Gate)
    (drop : Build → Bool) :
    (s.modLink m fun l => (l.abandonBuild drop).modGate g f) =
      s.setGate m g (f (s.link m).gates[g.val]) drop := by
  simp only [State.modLink, State.setGate, LinkEngine.modGate, LinkEngine.abandonBuild_eq]

/-- A change of a gate that abandons no build, in that form. -/
theorem State.modLink_modGate (s : State) (m : LinkId) (g : GroupId) (f : Gate → Gate) :
    (s.modLink m fun l => l.modGate g f) = s.setGate m g (f (s.link m).gates[g.val]) fun _ => false := by
  rw [← s.modLink_abandonBuild_modGate m g f]
  simp only [LinkEngine.abandonBuild_false]

/-- A release writes the OPEN gate with no exchange and abandons the group's EPOCH (R133). -/
theorem State.releaseGate_eq (s : State) (m : LinkId) (g : GroupId) :
    s.releaseGate m g = s.setGate m g Gate.idle (· == .control (.epoch g)) := by
  rw [State.releaseGate, State.modLink_abandonBuild_modGate, funext (Build.isEpochOf_eq g)]

/-- A close on an UP link starts the exchange and abandons the group's builds (R133). -/
theorem State.closeGate_of_up {s : State} {m : LinkId} (h : (s.link m).state = .up) (g : GroupId) :
    s.closeGate m g =
      s.setGate m g { awaiting := true, epochPending := true, timer := none, sends := 0 }
        fun b => b == .control (.epoch g) || b.isDataOf g := by
  rw [State.closeGate, if_pos h, State.modLink_abandonBuild_modGate]
  simp only [Build.isEpochOf_eq]

/-- A close on a link that is not UP does what a release does (R133). -/
theorem State.closeGate_of_not_up {s : State} {m : LinkId} (h : (s.link m).state ≠ .up) (g : GroupId) :
    s.closeGate m g = s.releaseGate m g := if_neg h

/-- The EPOCH timer's expiry up to the retry limit: the EPOCH is to be sent again (R134). -/
theorem State.epochExpired_again {s : State} {m : LinkId} {g : GroupId} {t : Nat}
    (ht : (s.link m).gates[g.val].timer = some t) (hl : (s.link m).gates[g.val].sends ≤ s.retryLimitOf g) :
    s.epochExpired m g =
      (s.reachTime t).setGate m g { (s.link m).gates[g.val] with epochPending := true, timer := none }
        fun _ => false := by
  simp only [State.epochExpired, ht]
  exact (if_pos hl).trans (State.modLink_modGate ..)

/-- The EPOCH timer's expiry past the retry limit: a fence is asked for (R134). -/
theorem State.epochExpired_past {s : State} {m : LinkId} {g : GroupId} {t : Nat}
    (ht : (s.link m).gates[g.val].timer = some t) (hl : ¬ (s.link m).gates[g.val].sends ≤ s.retryLimitOf g) :
    s.epochExpired m g =
      ((s.reachTime t).setGate m g { (s.link m).gates[g.val] with timer := none } fun _ => false).send
        (.fenceRequest m .epochLost) := by
  simp only [State.epochExpired, ht]
  exact (if_neg hl).trans (congrArg (State.send · _) (State.modLink_modGate ..))

/-- An expiry with no EPOCH timer running changes nothing (log 4). -/
theorem State.epochExpired_stopped {s : State} {m : LinkId} {g : GroupId}
    (ht : (s.link m).gates[g.val].timer = none) : s.epochExpired m g = s := by
  simp only [State.epochExpired, ht]

/-! ### EPOCH_ACK (R135, R181) -/

/-- A byte that is a group's number is read as that group. -/
theorem groupOfByte_of_toNat {b : Byte} {g : GroupId} (h : b.toNat = g.val) : groupOfByte b = some g := by
  have hlt : b.toNat < 16 := h ▸ g.isLt
  rw [groupOfByte, dif_pos hlt]
  exact congrArg some (Fin.ext h)

/-- A byte above 15 is no group. -/
theorem groupOfByte_above {b : Byte} (h : 15 < b.toNat) : groupOfByte b = none :=
  dif_neg (Nat.not_lt.2 h)

/-- An answer for a group is malformed exactly when it has a body (R181). -/
theorem badAnswer_eq_false_iff {f : Frame} {g : GroupId} (h : f.group.toNat = g.val) :
    badAnswer f = false ↔ f.body = [] := by
  have hgroup : f.group ≤ 15#8 := by
    rw [BitVec.le_def, h]
    exact Nat.le_of_lt_succ g.isLt
  simp [badAnswer, hgroup]

/-- A frame with the bound tag on an UP link counts for liveness and is acted on (R105, R106). -/
theorem State.receiveUp_of_up {s : State} {m : LinkId} {f : Frame} (hup : (s.link m).state = .up)
    (htag : (s.link m).tag = some f.senderTag) (act : State → State) :
    s.receiveUp m f act = act (s.setLink m { s.link m with heard := true, unanswered := 0 }) := by
  simp only [State.receiveUp, State.receive, hup, if_pos htag]

/-- An EPOCH_ACK of a group above 15 is only heard (R181). -/
theorem State.takeEpochAck_above {f : Frame} (h : 15 < f.group.toNat) (s : State) (m : LinkId) :
    s.takeEpochAck m f = s := by
  simp only [State.takeEpochAck, groupOfByte_above h]

/-- An EPOCH_ACK is a release when it is well formed, has the epoch of the group, which is defined, and its gate awaits
it (R135). -/
theorem State.takeEpochAck_of_group {f : Frame} {g : GroupId} (h : f.group.toNat = g.val) (s : State) (m : LinkId) :
    s.takeEpochAck m f =
      if f.body = [] ∧ (s.group g).any (fun r => f.epoch == r.epoch) = true ∧
          (s.link m).gates[g.val].awaiting = true then s.releaseGate m g
      else s := by
  simp only [State.takeEpochAck, groupOfByte_of_toNat h, badAnswer_eq_false_iff h]
  cases s.group g with
  | none => simp only [Option.any_none, Bool.false_eq_true, false_and, and_false, if_false]
  | some r => simp only [Option.any_some, beq_iff_eq]

/-- EPOCH_ACK with the bound tag on an UP link completes at what the gate makes of it once the link has heard it. -/
theorem epochAck_completes {s u : State} {m : LinkId} {f : Frame} (hs : s.mirrorSound)
    (hup : (s.link m).state = .up) (htag : (s.link m).tag = some f.senderTag)
    (hu : (s.setLink m { s.link m with heard := true, unanswered := 0 }).takeEpochAck m f = u) :
    Completes (.epochAck m f) s u :=
  completes_operation (s.receiveEpochAck m f) hs rfl (by simp) ((State.receiveUp_of_up hup htag _).trans hu)

/-- CLOSE completes at what the link makes of the request. -/
theorem close_completes {s u : State} {m : LinkId} {g : GroupId} (hs : s.mirrorSound)
    (hu : (s.taken (.close m g)).closeGate m g = u) : Completes (.close m g) s u :=
  completes_operation _ hs rfl (by simp) hu

/-- RELEASE completes with the gate released. -/
theorem release_completes {s u : State} {m : LinkId} {g : GroupId} (hs : s.mirrorSound)
    (hu : (s.taken (.release m g)).releaseGate m g = u) : Completes (.release m g) s u :=
  completes_operation _ hs rfl (by simp) hu

/-- EPOCH_TIMER_EXPIRY completes at what the gate makes of the expiry. -/
theorem epochTimerExpiry_completes {s u : State} {m : LinkId} {g : GroupId} (hs : s.mirrorSound)
    (hu : s.epochExpired m g = u) : Completes (.epochTimerExpiry m g) s u :=
  completes_operation _ hs rfl (by simp) hu

/-- Settles O38: each row's branches, every change of a gate in its one form. -/
theorem epochGates : Obligations.EpochGates := by
  unfold Obligations.EpochGates
  intro s m hs
  refine ⟨fun f hup htag hg => epochAck_completes hs hup htag (State.takeEpochAck_above hg _ m), fun g => ?_⟩
  refine ⟨release_completes hs (State.releaseGate_eq ..), fun hup => ?_, fun hup => ?_, fun f hup htag hg => ?_,
    fun t ht => ?_, fun ht => epochTimerExpiry_completes hs (State.epochExpired_stopped ht)⟩
  · exact close_completes hs
      ((State.closeGate_of_not_up (s := s.taken (.close m g)) hup g).trans (State.releaseGate_eq ..))
  · exact close_completes hs (State.closeGate_of_up (s := s.taken (.close m g)) hup g)
  · have hack := State.takeEpochAck_of_group hg (s.setLink m { s.link m with heard := true, unanswered := 0 }) m
    rw [State.link_setLink_same] at hack
    exact completes_ite
      (fun h => epochAck_completes hs hup htag (hack.trans ((if_pos h).trans (State.releaseGate_eq ..))))
      fun h => epochAck_completes hs hup htag (hack.trans (if_neg h))
  · exact completes_ite (fun hl => epochTimerExpiry_completes hs (State.epochExpired_again ht hl))
      fun hl => epochTimerExpiry_completes hs (State.epochExpired_past ht hl)

/-! ### The membership unit's requests at a link (R136, R138, R153) -/

/-- The builds that a purge abandons: any WRITE and any EPOCH (R138). -/
theorem Build.purged_eq (b : Build) :
    (b.isData || b.isEpoch) = match b with
      | .data _ => true
      | .control (.epoch _) => true
      | .control _ => false := by
  cases b with
  | data e => rfl
  | control c => cases c <;> rfl

/-- Left-queue notices join the requests under way, in queue order (log 28). -/
theorem State.sendNotices_eq (s : State) (m : LinkId) (es : List DataEntry) :
    s.sendNotices m es = { s with inFlight := s.inFlight ++ es.map (DataEntry.notice m) } :=
  foldl_send (DataEntry.notice m) es s

/-- A purge on fence: the link's queue leaves with its notices, and on an UP link what is outstanding is to be ignored
(R138). -/
theorem State.purge_eq (s : State) (m : LinkId) :
    s.purge m =
      { s.setLink m
          { s.link m with
            queue := [], gates := Vector.replicate 16 Gate.idle
            build := (s.link m).buildWithout fun b => b.isData || b.isEpoch
            outstanding :=
              if (s.link m).state = .up then (s.link m).outstanding.map fun o => { o with ignored := true }
              else (s.link m).outstanding
            fencePending := (s.link m).fencePending || decide ((s.link m).state = .up) } with
        inFlight := s.inFlight ++ (s.link m).queue.map (DataEntry.notice m) } := by
  simp only [State.purge, State.sendNotices_eq, LinkEngine.abandonBuild_eq, beq_iff_eq]
  rfl

/-- The clearing of REJOIN-pending on an UP link, with the REJOIN that is being built (R136, R153). -/
theorem State.requestFence_of_up {s : State} {m : LinkId} (h : (s.link m).state = .up) (fence : Bool) :
    s.requestFence m fence =
      s.setLink m
        { s.link m with
          rejoinPending := false, fencePending := (s.link m).fencePending || fence
          build := if (s.link m).build = some (.control .rejoin) then none else (s.link m).build } := by
  rw [State.requestFence, if_pos h, State.modLink, LinkEngine.abandonBuild_eq, LinkEngine.buildWithout_isControl]

/-- PURGE_ON_FENCE completes at the purged link with the EXCLUDE looked at. -/
theorem purgeOnFence_completes {s u : State} {m : LinkId} (hs : s.mirrorSound)
    (hu : (s.taken (.purgeOnFence m)).purge m = u) : Completes (.purgeOnFence m) s u.excludeCheck :=
  completes_operation _ hs rfl (by simp) (congrArg State.excludeCheck hu)

/-- W_HAND_OVER on an UP link completes with the W taken and full credits; the mirror's mark does not last (R136). -/
theorem wHandOver_completes_of_up {s : State} {m : LinkId} (hs : s.mirrorSound) (h : (s.link m).state = .up)
    (w : Nat) :
    Completes (.wHandOver m w) s
      ((s.taken (.wHandOver m w)).setLink m { s.link m with w := w, credits := w, outstanding := [] }) := by
  have hw : (s.taken (.wHandOver m w)).handOverW m w =
      ((s.taken (.wHandOver m w)).setLink m { s.link m with w := w, credits := w, outstanding := [] }).markDirty :=
    if_pos h
  refine completes_of _ rfl (State.mirrorSound_of_eq hs (by simp) (by simp)) ?_
  rw [hw]
  exact State.chooseAll_lasting (State.markDirty_lasting _)

/-- FENCE_PENDING_REQUEST completes at what the link makes of the request. -/
theorem fencePendingRequest_completes {s u : State} {m : LinkId} {fence : Bool} (hs : s.mirrorSound)
    (hu : (s.taken (.fencePendingRequest m fence)).requestFence m fence = u) :
    Completes (.fencePendingRequest m fence) s u :=
  completes_operation _ hs rfl (by simp) hu

/-- Settles O39: the purge written out, and the two other requests by whether the link is UP. -/
theorem membershipRequestsAtTheLink : Obligations.MembershipRequestsAtTheLink := by
  unfold Obligations.MembershipRequestsAtTheLink
  intro s m w fence hs
  refine ⟨purgeOnFence_completes hs ?_,
    completes_ite (wHandOver_completes_of_up hs · w) fun h => completes_operation _ hs rfl (by simp) (if_neg h),
    completes_ite
      (fun h => fencePendingRequest_completes hs
        (State.requestFence_of_up (s := s.taken (.fencePendingRequest m fence)) h fence))
      fun h => fencePendingRequest_completes hs (if_neg h)⟩
  rw [State.purge_eq, funext Build.purged_eq]
  rfl

end Sys2Proof.Machine
end

section
/-! PROOFS. The membership unit: the clean streaks, and a READMIT at its dispatch with the offer its groups make. -/

open Sys2Proof Sys2Proof.Machine

namespace Sys2Proof.Machine

/-! ### Streaks (R143, R144) -/

/-- A retry notice makes an ACTIVE member SUSPECT (R143). -/
theorem State.takeRetryNotice_active {s : State} {m : LinkId} (h : (s.member m).health = .active) :
    s.takeRetryNotice m =
      (s.setMember m { s.member m with health := .suspect, streak := 0 }).raise .memberChange := by
  simp only [State.takeRetryNotice, h, State.changeMember]

/-- A retry notice clears the streak of a SUSPECT member (R143). -/
theorem State.takeRetryNotice_suspect {s : State} {m : LinkId} (h : (s.member m).health = .suspect) :
    s.takeRetryNotice m = s.setMember m { s.member m with streak := 0 } := by
  simp only [State.takeRetryNotice, h]

/-- A retry notice leaves a FENCED member (R143). -/
theorem State.takeRetryNotice_fenced {s : State} {m : LinkId} (h : (s.member m).health = .fenced) :
    s.takeRetryNotice m = s := by
  simp only [State.takeRetryNotice, h]

/-- A clean-streak notice leaves a member that is not SUSPECT (R144). -/
theorem State.takeStreak_not_suspect {s : State} {m : LinkId} (h : (s.member m).health ≠ .suspect) (clean : Bool) :
    s.takeStreak m clean = s := by
  rw [State.takeStreak]
  cases hh : (s.member m).health with
  | suspect => exact absurd hh h
  | active => rfl
  | fenced => rfl

/-- An unclean notice clears the streak of a SUSPECT member (R144). -/
theorem State.takeStreak_unclean {s : State} {m : LinkId} (h : (s.member m).health = .suspect) :
    s.takeStreak m false = s.setMember m { s.member m with streak := 0 } := by
  simp only [State.takeStreak, h, Bool.false_eq_true, if_false]

/-- A clean notice raises the streak of a SUSPECT member, and at the eighth makes it ACTIVE (R144). -/
theorem State.takeStreak_clean {s : State} {m : LinkId} (h : (s.member m).health = .suspect) :
    s.takeStreak m true =
      if (s.member m).streak + 1 < 8 then s.setMember m { s.member m with streak := (s.member m).streak + 1 }
      else (s.setMember m { s.member m with health := .active, streak := 0 }).raise .memberChange := by
  simp only [State.takeStreak, h, if_true, Config.cleanStreak, State.changeMember]

/-- RETRY_NOTICE completes at what the membership unit makes of the notice. -/
theorem retryNotice_completes {s u : State} {m : LinkId} (hs : s.mirrorSound)
    (hu : (s.taken (.retryNotice m)).takeRetryNotice m = u) : Completes (.retryNotice m) s u :=
  completes_operation _ hs rfl (by simp) hu

/-- CLEAN_STREAK_NOTICE completes at what the membership unit makes of the notice. -/
theorem cleanStreakNotice_completes {s u : State} {m : LinkId} {clean : Bool} (hs : s.mirrorSound)
    (hu : (s.taken (.cleanStreakNotice m clean)).takeStreak m clean = u) :
    Completes (.cleanStreakNotice m clean) s u :=
  completes_operation _ hs rfl (by simp) hu

/-- Settles O43: a retry notice by the member's health, and a clean-streak notice of a SUSPECT member by whether it is
clean and the streak is full. -/
theorem retryAndCleanStreakNotices : Obligations.RetryAndCleanStreakNotices := by
  unfold Obligations.RetryAndCleanStreakNotices
  refine ⟨fun s m hs => ?_, fun s m clean hs => ?_⟩
  · dsimp only
    split
    next h => exact retryNotice_completes hs (State.takeRetryNotice_active (s := s.taken (.retryNotice m)) h)
    next h => exact retryNotice_completes hs (State.takeRetryNotice_suspect (s := s.taken (.retryNotice m)) h)
    next h => exact retryNotice_completes hs (State.takeRetryNotice_fenced (s := s.taken (.retryNotice m)) h)
  · dsimp only
    split
    next h =>
      exact cleanStreakNotice_completes hs
        (State.takeStreak_not_suspect (s := s.taken (.cleanStreakNotice m clean)) h clean)
    next h =>
      have hsuspect : ((s.taken (.cleanStreakNotice m clean)).member m).health = .suspect := Decidable.not_not.1 h
      cases clean with
      | false => exact cleanStreakNotice_completes hs (State.takeStreak_unclean hsuspect)
      | true =>
        have hclean := State.takeStreak_clean hsuspect
        exact completes_ite (fun hlt => cleanStreakNotice_completes hs (hclean.trans (if_pos hlt)))
          fun hlt => cleanStreakNotice_completes hs (hclean.trans (if_neg hlt))

/-! ### The offer of a READMIT (R9) -/

/-- A group has a member among its defined ones when it is defined and holds it (R9). -/
theorem State.memberGroup_eq (s : State) (m : LinkId) (g : GroupId) :
    s.memberGroup m g = (s.group g).any fun r => setHas r.defined m := by
  rw [State.memberGroup]
  cases s.group g <;> rfl

/-- A group is busy when it is defined with slots in use or frozen (R3, R9). -/
theorem State.groupBusy_eq (s : State) (g : GroupId) :
    s.groupBusy g = (s.group g).any fun r => decide (0 < r.slotsInUse) || r.frozen := by
  rw [State.groupBusy]
  cases s.group g <;> rfl

/-- The groups that an offer for a member names (R9). -/
def State.offeredGroups (s : State) (m : LinkId) : List GroupId :=
  allGroups.filter fun g => (s.group g).any fun r => setHas r.defined m

/-- The entries that an offer of some groups holds: one for each that is defined (R9). -/
def State.offerEntries (s : State) (gs : List GroupId) : List OfferEntry :=
  gs.filterMap fun g => (s.group g).map (offerEntry g)

/-- The offer for a member, by whether one of its groups is busy (R9). -/
theorem State.offerFor_eq (s : State) (m : LinkId) :
    s.offerFor m =
      if ((s.offeredGroups m).any fun g => (s.group g).any fun r => decide (0 < r.slotsInUse) || r.frozen) = true then
        none
      else some (s.offerEntries (s.offeredGroups m)) := by
  simp only [State.offerFor, funext (s.memberGroup_eq m), funext s.groupBusy_eq]
  rfl

/-- The entries of an offer name the groups it is made of that are defined. -/
theorem State.mem_groups_offerEntries {s : State} {gs : List GroupId} {g : GroupId} :
    g ∈ (s.offerEntries gs).map OfferEntry.group ↔ g ∈ gs ∧ (s.group g).isSome := by
  simp only [State.offerEntries, List.mem_map, List.mem_filterMap, Option.map_eq_some_iff]
  constructor
  · rintro ⟨_, ⟨k, hk, r, hr, rfl⟩, rfl⟩
    exact ⟨hk, Option.isSome_of_mem hr⟩
  · rintro ⟨hg, hs⟩
    obtain ⟨r, hr⟩ := Option.isSome_iff_exists.1 hs
    exact ⟨_, ⟨g, hg, r, hr, rfl⟩, rfl⟩

/-- The frozen flags of the groups of an offer written: the group table with those groups changed (R9, R10). -/
theorem State.setFrozen_groups (offer : List OfferEntry) (flag : Bool) (s : State) :
    (s.setFrozen offer flag).groups = Vector.ofFn fun g =>
      if g ∈ offer.map OfferEntry.group then (s.group g).map fun r => { r with frozen := flag } else s.group g := by
  induction offer generalizing s with
  | nil => ext g hg; simp [State.setFrozen, State.group]
  | cons e offer ih =>
    rw [State.setFrozen, List.foldl_cons]
    refine (ih _).trans (congrArg Vector.ofFn (funext fun g => ?_))
    rw [State.modGroup, State.group_setGroup]
    by_cases hg : g = e.group
    · subst hg
      cases s.group e.group <;> simp
    · simp [hg]

/-- The frozen flags of the groups that an offer's entries are made of (R9). -/
theorem State.setFrozen_offerEntries (s : State) (gs : List GroupId) (flag : Bool) :
    (s.setFrozen (s.offerEntries gs) flag).groups = Vector.ofFn fun g =>
      if gs.contains g then (s.group g).map fun r => { r with frozen := flag } else s.group g := by
  rw [State.setFrozen_groups]
  refine congrArg Vector.ofFn (funext fun g => ?_)
  simp only [State.mem_groups_offerEntries, List.contains_iff_mem]
  cases s.group g with
  | none => simp only [Option.map_none, ite_self]
  | some r => simp only [Option.isSome_some, and_true]

/-- The frozen flags leave the notice unit but for the mirror's mark. -/
theorem State.setFrozen_notices (s : State) (offer : List OfferEntry) (flag : Bool) :
    (s.setFrozen offer flag).notices.lasting = s.notices.lasting :=
  foldl_keeps (fun t : State => t.notices.lasting) _ (by intros; rfl) offer s

/-! ### The dispatch of a READMIT (R75, R149) -/

/-- The first three checks of R149. -/
theorem State.readmitRefusal_eq (s : State) (m : LinkId) :
    s.readmitRefusal m =
      if (s.link m).state ≠ .up then some .linkNotUp
      else if (s.member m).health ≠ .fenced then some .notFenced
      else if (s.member m).readmit.isSome ∨ (s.link m).note.isSome then some .memberBusy
      else none := by
  simp only [State.readmitRefusal, Health.inService_eq, decide_eq_true_iff]

/-- A READMIT that one of the first three checks refuses. -/
theorem State.dispatchReadmit_refused {s : State} {m : LinkId} {outcome : OrderOutcome}
    (h : s.readmitRefusal m = some outcome) (order : Addr) (tag : BitVec 32) :
    s.dispatchReadmit m order tag = s.reportOrder order outcome refusedReadmit := by
  simp only [State.dispatchReadmit, h]

/-- A READMIT past the first three checks, by whether the group table makes an offer. -/
theorem State.dispatchReadmit_unrefused {s : State} {m : LinkId} (h : s.readmitRefusal m = none) (order : Addr)
    (tag : BitVec 32) :
    s.dispatchReadmit m order tag =
      if ((s.offeredGroups m).any fun g => (s.group g).any fun r => decide (0 < r.slotsInUse) || r.frozen) = true then
        s.reportOrder order .groupBusy refusedReadmit
      else s.acceptReadmit m order tag (s.offerEntries (s.offeredGroups m)) := by
  simp only [State.dispatchReadmit, h, State.offerFor_eq]
  split
  next hnone =>
    split at hnone
    next hbusy => exact (if_pos hbusy).symm
    next => nomatch hnone
  next hsome =>
    split at hsome
    next => nomatch hsome
    next hfree => cases hsome; exact (if_neg hfree).symm

/-- An accepted READMIT: the groups it offers are frozen, the readmit is in flight with its reply timer, and
REJOIN-pending is set; of the notice unit the mirror's mark alone changes (R9, R149). -/
theorem State.acceptReadmit_lasting (s : State) (m : LinkId) (order : Addr) (tag : BitVec 32) :
    (s.acceptReadmit m order tag (s.offerEntries (s.offeredGroups m))).lasting =
      ({ s with
        groups := Vector.ofFn fun g =>
          if (s.offeredGroups m).contains g then (s.group g).map fun r => { r with frozen := true } else s.group g
        members := s.members.set m.val
          { s.member m with
            readmit :=
              some { order := order, tag := tag, offer := s.offerEntries (s.offeredGroups m), sent := false }
            replyTimer := some (s.now + 4 * s.notices.probeInterval) }
        links := s.links.set m.val { s.link m with rejoinPending := true } } : State).lasting := by
  have hnotices := s.setFrozen_notices (s.offerEntries (s.offeredGroups m)) true
  have hinterval : (s.setFrozen (s.offerEntries (s.offeredGroups m)) true).notices.probeInterval =
      s.notices.probeInterval := (congrArg NoticeUnit.probeInterval hnotices :)
  refine State.lasting_congr (by simp) (by simp) (by simp) (by simp) (by simp) (by simp) ?_ ?_ ?_ (by simp) hnotices
  · exact s.setFrozen_offerEntries (s.offeredGroups m) true
  · simp [State.acceptReadmit, State.replyDeadline, hinterval, Config.replyIntervals, State.member]
  · simp [State.acceptReadmit, State.link]

/-- READMIT for a link completes at whatever lasts as what the dispatch makes of it, once the requests of the membership
unit in flight have been taken (R146, log 1). -/
theorem readmit_completes {v s u : State} {order : Addr} {rec : Record} {m : LinkId} (hv : v.mirrorSound)
    (hm : rec.link? = some m) (hs : v.takeMembershipAll.excludeCheck = s)
    (hu : (s.dispatchReadmit m order rec.tag).lasting = u.lasting) : Completes (.readmit order rec) v u := by
  refine completes_of (v.dispatchReadmitOrder order rec.link? rec.tag) rfl
    (State.mirrorSound_of_eq hv (by simp) (by simp)) (State.chooseAll_lasting ?_)
  rw [← hu, ← hs, hm, State.dispatchReadmitOrder]

/-- Settles O21: the requests in flight are taken as the model takes them, and the dispatch goes by the checks of R149
in their order. -/
theorem readmitTakenOrRefused : Obligations.ReadmitTakenOrRefused := by
  unfold Obligations.ReadmitTakenOrRefused
  refine ⟨fun v order rec m hv hm => ?_, fun v order rec hv hm => ?_⟩
  · intro s end_ gs successor offer
    have htaken : v.takeMembershipAll.excludeCheck = s := rfl
    have hrefused (outcome : OrderOutcome) (h : s.readmitRefusal m = some outcome) : end_ outcome :=
      readmit_completes hv hm htaken (congrArg State.lasting (State.dispatchReadmit_refused h order rec.tag))
    have hrefusal := s.readmitRefusal_eq m
    split
    next hup => exact hrefused _ (hrefusal.trans (if_pos hup))
    next hup =>
      rw [if_neg hup] at hrefusal
      split
      next hhealth => exact hrefused _ (hrefusal.trans (if_pos hhealth))
      next hhealth =>
        rw [if_neg hhealth] at hrefusal
        split
        next hbusy => exact hrefused _ (hrefusal.trans (if_pos hbusy))
        next hbusy =>
          have hdispatch := State.dispatchReadmit_unrefused (hrefusal.trans (if_neg hbusy)) order rec.tag
          exact completes_ite
            (fun h => readmit_completes hv hm htaken (congrArg State.lasting (hdispatch.trans (if_pos h))))
            fun h => readmit_completes hv hm htaken
              ((congrArg State.lasting (hdispatch.trans (if_neg h))).trans (s.acceptReadmit_lasting m order rec.tag))
  · refine completes_operation (v.dispatchReadmitOrder order rec.link? rec.tag) hv rfl (by simp) ?_
    rw [hm]
    rfl

end Sys2Proof.Machine
end

section
/-! PROOFS. The status mirror's body, section by section, and what the register window reads. -/

open Sys2Proof Sys2Proof.Machine

namespace Sys2Proof.Machine

/-! ### Bytes at an offset of a concatenation -/

/-- What stands at an offset of a list stands there whatever follows the list. -/
theorem prefix_drop_append {a bytes : List Byte} {k : Nat} (h : bytes <+: a.drop k) (b : List Byte) :
    bytes <+: (a ++ b).drop k := by
  rw [List.drop_append]
  exact h.trans (List.prefix_append _ _)

/-- What stands at an offset of a list stands that far behind whatever precedes the list. -/
theorem prefix_drop_behind {a b bytes : List Byte} {n k : Nat} (ha : a.length = n) (h : bytes <+: b.drop k) :
    bytes <+: (a ++ b).drop (n + k) := by
  rwa [← ha, List.drop_length_add_append]

/-- Sections of one length make a list of as many bytes as they are many times that length. -/
theorem flatMap_length_of_sections {α : Type} {f : α → List Byte} {n : Nat} (hf : ∀ x, (f x).length = n)
    (l : List α) : (l.flatMap f).length = n * l.length := by
  induction l with
  | nil => rfl
  | cons x l ih => rw [List.flatMap_cons, List.length_append, hf, ih, List.length_cons, Nat.mul_succ, Nat.add_comm]

/-- Among sections of one length, each stands at the multiple of it that its place gives. -/
theorem section_prefix {α : Type} {f : α → List Byte} {n i : Nat} (hf : ∀ x, (f x).length = n) {l : List α}
    (h : i < l.length) : f l[i] <+: (l.flatMap f).drop (n * i) := by
  induction l generalizing i with
  | nil => exact absurd h (Nat.not_lt_zero i)
  | cons x l ih =>
    rw [List.flatMap_cons]
    cases i with
    | zero => exact List.prefix_append (f x) (l.flatMap f)
    | succ i =>
      rw [Nat.mul_succ, Nat.add_comm (n * i) n]
      exact prefix_drop_behind (hf x) (ih (Nat.lt_of_succ_lt_succ h))

/-! ### The mirror's body (R163, 11.4) -/

/-- The fixed part takes 60 bytes. -/
theorem Status.head_length (v : Status) : v.head.length = 60 := rfl

/-- A link section takes 8 bytes. -/
theorem LinkStatus.bytes_length (l : LinkStatus) : l.bytes.length = 8 := rfl

/-- A group section takes 16 bytes, of a defined group and of an UNDEFINED one. -/
theorem groupSection_length (r : Option GroupStatus) : (groupSection r).length = 16 := by
  cases r <;> rfl

/-- The eight link sections take 64 bytes. -/
theorem State.linkSections_length (s : State) : (s.status.links.flatMap LinkStatus.bytes).length = 64 :=
  flatMap_length_of_sections LinkStatus.bytes_length _

/-- The sixteen group sections take 256 bytes. -/
theorem State.groupSections_length (s : State) : (s.status.groups.flatMap groupSection).length = 256 :=
  flatMap_length_of_sections groupSection_length _

/-- The body takes 504 bytes. -/
theorem State.body_length (s : State) : s.status.bytes.length = 504 := by
  simp only [Status.bytes, List.length_append, Status.head_length, s.linkSections_length, s.groupSections_length,
    zeros, List.length_replicate]

/-- A field of the fixed part stands in the body at its offset. -/
theorem State.body_head {s : State} {bytes : List Byte} {k : Nat} (h : bytes <+: s.status.head.drop k) :
    bytes <+: s.status.bytes.drop k :=
  prefix_drop_append (prefix_drop_append (prefix_drop_append h _) _) _

/-- The links are listed in ascending order. -/
theorem allLinks_getElem (m : LinkId) : allLinks[m.val]'m.isLt = m := by
  revert m; decide

/-- The groups are listed in ascending order. -/
theorem allGroups_getElem (g : GroupId) : allGroups[g.val]'g.isLt = g := by
  revert g; decide

/-- The section of link `m` stands in the body behind the fixed part. -/
theorem State.body_link (s : State) (m : LinkId) :
    (s.linkStatus m).bytes <+: s.status.bytes.drop (60 + 8 * m.val) := by
  have hm : m.val < s.status.links.length := m.isLt
  have hget : s.status.links[m.val] = s.linkStatus m :=
    (List.getElem_map s.linkStatus).trans (congrArg s.linkStatus (allLinks_getElem m))
  have hsection := section_prefix LinkStatus.bytes_length hm
  rw [hget] at hsection
  exact prefix_drop_append (prefix_drop_append (prefix_drop_behind s.status.head_length hsection) _) _

/-- The section of group `g` stands in the body behind the links' sections. -/
theorem State.body_group (s : State) (g : GroupId) :
    groupSection ((s.group g).map GroupRecord.status) <+: s.status.bytes.drop (124 + 16 * g.val) := by
  have hg : g.val < s.status.groups.length := g.isLt
  have hget : s.status.groups[g.val] = (s.group g).map GroupRecord.status :=
    (List.getElem_map _).trans (congrArg (fun k => (s.group k).map GroupRecord.status) (allGroups_getElem g))
  have hsection := section_prefix groupSection_length hg
  rw [hget] at hsection
  refine prefix_drop_append (prefix_drop_behind ?_ hsection) _
  rw [List.length_append, Status.head_length, s.linkSections_length]

/-- The body ends with 124 zero bytes. -/
theorem State.body_end (s : State) : zeros 124 <+: s.status.bytes.drop 380 := by
  refine prefix_drop_behind (n := 380) (k := 0) ?_ (List.prefix_refl _)
  simp only [List.length_append, Status.head_length, s.linkSections_length, s.groupSections_length]

/-! ### The register window (R177, 11.5) -/

/-- Of a value, `n` bytes show its remainder by 256^n. -/
theorem toLE_mod (n v : Nat) : toLE n (v % 256 ^ n) = toLE n v := by
  induction n generalizing v with
  | zero => rfl
  | succ n ih =>
    have hlow : v % 256 ^ (n + 1) % 256 = v % 256 := Nat.mod_mod_of_dvd v (Nat.dvd_mul_left 256 (256 ^ n))
    have hhigh : v % 256 ^ (n + 1) / 256 = v / 256 % 256 ^ n := by
      rw [Nat.pow_succ', Nat.mod_mul_right_div_self]
    rw [toLE, hlow, hhigh, ih, toLE]

/-- The four bytes of the RUN register: the run state, the chain state, and two zero bytes. -/
theorem runRegister_bytes (r : RunState) (c : ChainState) :
    toLE 4 (BitVec.ofNat 32 (r.code + 256 * c.code)).toNat = [BitVec.ofNat 8 r.code, BitVec.ofNat 8 c.code, 0, 0] := by
  cases r <;> cases c <;> rfl

/-- A notice word reads zero-extended. -/
theorem noticeRegister_toNat (x : BitVec 12) : (x.zeroExtend 32).toNat = x.toNat :=
  BitVec.toNat_setWidth_of_le (by decide)

/-- The 32 bytes of the window: the six registers, and zero at 18h to 1Fh. -/
theorem State.windowImage_eq (s : State) :
    s.windowImage =
      toLE 4 s.port.originLo.toNat ++ toLE 4 s.port.originHi.toNat ++ toLE 4 s.chain.pendingPosts ++
        [BitVec.ofNat 8 s.port.run.code, BitVec.ofNat 8 s.chain.state.code, 0, 0] ++ toLE 4 s.notices.raw.toNat ++
        toLE 4 s.notices.mask.toNat ++ zeros 8 := by
  have hlow : (s.readRegister 0x00).toNat = s.port.originLo.toNat := rfl
  have hhigh : (s.readRegister 0x04).toNat = s.port.originHi.toNat := rfl
  have hposts : toLE 4 (s.readRegister 0x08).toNat = toLE 4 s.chain.pendingPosts :=
    (congrArg (toLE 4) (BitVec.toNat_ofNat s.chain.pendingPosts 32)).trans (toLE_mod 4 s.chain.pendingPosts)
  have hrun : toLE 4 (s.readRegister 0x0C).toNat =
      [BitVec.ofNat 8 s.port.run.code, BitVec.ofNat 8 s.chain.state.code, 0, 0] := runRegister_bytes _ _
  have hraw : (s.readRegister 0x10).toNat = s.notices.raw.toNat := noticeRegister_toNat _
  have hmask : (s.readRegister 0x14).toNat = s.notices.mask.toNat := noticeRegister_toNat _
  have hunused : (s.readRegister 0x18).toNat = 0 ∧ (s.readRegister 0x1C).toNat = 0 := ⟨rfl, rfl⟩
  have hzero : toLE 4 0 ++ toLE 4 0 = zeros 8 := by decide
  simp only [State.windowImage, List.flatMap_cons, List.flatMap_nil, List.append_nil, List.append_assoc, hlow, hhigh,
    hposts, hrun, hraw, hmask, hunused, hzero]

/-- Settles O53: the fixed part is read off at its offsets, the sections and the zero bytes are found behind it, and the
window is its registers. -/
theorem mirrorBodyAndRegisterReads : Obligations.MirrorBodyAndRegisterReads := by
  unfold Obligations.MirrorBodyAndRegisterReads
  intro s n c run chain held body at_
  have hrun : BitVec.ofNat 8 s.port.run.code = run := by dsimp only [run]; cases s.port.run <;> rfl
  have hchain : BitVec.ofNat 8 c.state.code = chain := by dsimp only [chain]; cases c.state <;> rfl
  have hheld : BitVec.ofNat 8 c.heldReason.code = held := by dsimp only [held]; cases c.heldReason <;> rfl
  have hplace {k offset : Nat} {bytes : List Byte} (h : bytes <+: body.drop k) (hk : offset - 4 = k) :
      at_ offset bytes := by
    subst hk; exact (List.prefix_iff_eq_take.1 h).symm
  have hhead {offset : Nat} {bytes : List Byte} (h : bytes <+: s.status.head.drop (offset - 4)) : at_ offset bytes :=
    hplace (s.body_head h) rfl
  refine ⟨s.body_length, hhead ⟨_, rfl⟩, hhead ⟨_, rfl⟩, hhead ⟨_, rfl⟩, hhead ?_, hhead ⟨_, rfl⟩, hhead ⟨_, rfl⟩,
    hhead ⟨_, rfl⟩, hhead ⟨_, rfl⟩, hhead ⟨_, rfl⟩, hhead ⟨_, rfl⟩, hhead ⟨_, rfl⟩, hhead ⟨_, rfl⟩,
    hplace s.body_end rfl, fun m => ?_, fun g => ?_, ?_⟩
  · rw [← hrun, ← hchain, ← hheld]; exact ⟨_, rfl⟩
  · intro l state health cause
    have hstate : BitVec.ofNat 8 l.state.code = state := by dsimp only [state]; cases l.state <;> rfl
    have hhealth : BitVec.ofNat 8 (s.member m).health.code = health := by
      dsimp only [health]; cases (s.member m).health <;> rfl
    have hcause : causeCode (s.member m).cause = cause := by
      dsimp only [cause]
      cases (s.member m).cause with
      | none => rfl
      | some why => cases why <;> rfl
    rw [← hstate, ← hhealth, ← hcause]
    have hsection := hplace (offset := 0x40 + 8 * m.val) (s.body_link m) (by omega)
    simp only [LinkStatus.bytes, State.linkStatus] at hsection
    cases htag : l.tag with
    | none => rw [show (s.link m).tag = none from htag] at hsection; exact hsection
    | some tag => rw [show (s.link m).tag = some tag from htag] at hsection; exact hsection
  · have hsection := hplace (offset := 0x80 + 16 * g.val) (s.body_group g) (by omega)
    cases hg : s.group g with
    | none => rwa [hg] at hsection
    | some r =>
      rw [hg] at hsection
      dsimp only
      simp only [Option.map_some, groupSection, GroupRecord.status] at hsection
      cases hstate : r.state with
      | live => rw [hstate] at hsection; exact hsection
      | stalled => rw [hstate] at hsection; exact hsection
  · intro window offset bytes
    have hwindow : s.windowImage = window := by rw [s.windowImage_eq, hrun, hchain]
    rw [← hwindow]
    rfl

end Sys2Proof.Machine
end

section
/-! PROOFS. The interrupt at the notice unit's events, and the end of an event: the mirror write that it begins, the
request that it leaves asked for, and the latch. -/

open Sys2Proof Sys2Proof.Machine

namespace Sys2Proof.Machine

/-! ### The interrupt latch (R157 to R159, R166) -/

/-- The interrupt reconsidered: the latch is set where a notice is active (R166). -/
theorem State.reconsider_latch (s : State) :
    s.reconsider.port.latch = (s.port.latch || s.notices.active != 0) := by
  simp only [State.reconsider]
  split
  next h =>
    have hactive : (s.notices.active != 0) = true := bne_iff_ne.2 h.1
    rw [hactive, Bool.or_true]; rfl
  next h =>
    cases hl : s.port.latch with
    | true => rfl
    | false => simpa [hl] using h

/-- A reconsidering event of OFF and BROKEN (R166). -/
theorem State.reconsiderUnlessOn_latch (s : State) :
    s.reconsiderUnlessOn.port.latch =
      (s.port.latch || s.notices.mirrorState != .on && s.notices.active != 0) := by
  simp only [State.reconsiderUnlessOn]
  split
  next hon => simp [hon]
  next hoff =>
    have hkept : (s.notices.mirrorState != .on) = true := bne_iff_ne.2 hoff
    rw [s.reconsider_latch, hkept, Bool.true_and]

/-- A notice raised sets the latch where it changes the active notices and no mirror is kept (R157, R166). -/
theorem State.raise_latch (s : State) (n : Notice) :
    (s.raise n).port.latch =
      (s.port.latch || s.notices.mirrorState != .on && (s.notices.raise n).active != s.notices.active &&
        (s.notices.raise n).active != 0) := by
  by_cases h : (s.notices.raise n).active = s.notices.active
  · have hsame : s.raise n = s.modNotices fun u => u.raise n := if_pos h
    simp [hsame, h]
  · have hchanged : s.raise n = (s.modNotices fun u => u.raise n).reconsiderUnlessOn := if_neg h
    have hbne : ((s.notices.raise n).active != s.notices.active) = true := bne_iff_ne.2 h
    rw [hchanged, State.reconsiderUnlessOn_latch, hbne, Bool.and_true]
    rfl

/-- Of what lasts, a NOTICE write changes the raw notices alone (R158). -/
theorem State.writeNotice_lasting (s : State) (bits : BitVec 12) :
    (s.writeNotice bits).lasting =
      ({ s with notices := { s.notices with raw := s.notices.raw &&& ~~~bits } } : State).lasting :=
  State.reconsiderUnlessOn_lasting _

/-- A NOTICE write clears the latch and is a reconsidering event (R158, R166). -/
theorem State.writeNotice_latch (s : State) (bits : BitVec 12) :
    (s.writeNotice bits).port.latch =
      (s.notices.mirrorState != .on && s.notices.raw &&& ~~~bits &&& ~~~s.notices.mask != 0) :=
  (State.reconsiderUnlessOn_latch _).trans (Bool.false_or _)

/-- Of what lasts, a MASK write changes the mask alone (R159). -/
theorem State.writeMask_lasting (s : State) (bits : BitVec 12) :
    (s.writeMask bits).lasting = ({ s with notices := { s.notices with mask := bits } } : State).lasting :=
  State.reconsiderUnlessOn_lasting _

/-- A MASK write leaves the latch and is a reconsidering event (R159, R166). -/
theorem State.writeMask_latch (s : State) (bits : BitVec 12) :
    (s.writeMask bits).port.latch =
      (s.port.latch || s.notices.mirrorState != .on && s.notices.raw &&& ~~~bits != 0) :=
  State.reconsiderUnlessOn_latch _

/-! ### A mirror write begins, or none does (R162) -/

/-- The conditions of R162. -/
theorem NoticeUnit.writeDue_iff (u : NoticeUnit) :
    u.writeDue = true ↔
      u.mirrorState = .on ∧ u.dirty = true ∧ u.writeInFlight = false ∧ u.intervalTimer = none := by
  simp [NoticeUnit.writeDue, and_assoc]

/-- No mirror write is due where one of R162's conditions fails. -/
theorem NoticeUnit.writeDue_eq_false {u : NoticeUnit}
    (h : ¬ (u.mirrorState = .on ∧ u.dirty = true ∧ u.writeInFlight = false ∧ u.intervalTimer = none)) :
    u.writeDue = false :=
  Bool.eq_false_iff.2 (mt u.writeDue_iff.1 h)

/-- The notice unit with a mirror write begun (R162, R163). -/
def NoticeUnit.begun (u : NoticeUnit) (now : Nat) : NoticeUnit :=
  { u with
    dirty := false, writeInFlight := true, generation := u.generation + 1
    intervalTimer := if u.mirrorInterval = 0 then none else some (now + u.mirrorInterval) }

/-- The write of the leading count that a mirror write begins with (R163). -/
def State.leadingRequest (s : State) : MemRequest :=
  s.mirrorRequest .mirrorLeading 0 (toLE 4 (s.notices.generation + 1).toNat)

/-- The leading count stands at the mirror base. -/
theorem State.leadingRequest_eq (s : State) :
    s.leadingRequest =
      { kind := .mirrorLeading, addr := s.notices.mirrorBase, len := 4
        data := toLE 4 (s.notices.generation + 1).toNat, abandoned := false } := by
  simp only [State.leadingRequest, State.mirrorRequest, writeRequest, toLE_length, BitVec.ofNat_eq_ofNat,
    BitVec.add_zero]

/-- The leading count depends on the mirror's base and the generation count alone. -/
theorem State.leadingRequest_congr {s t : State} (hb : t.notices.mirrorBase = s.notices.mirrorBase)
    (hg : t.notices.generation = s.notices.generation) : t.leadingRequest = s.leadingRequest := by
  rw [t.leadingRequest_eq, s.leadingRequest_eq, hb, hg]

/-- A write within the 512 bytes of a mirror block below 2^48 is not refused (R101, R163). -/
theorem State.askMirror_within {s : State} {offset : BitVec 64} {bytes : List Byte} (kind : RequestKind)
    (hb : s.notices.mirrorBase.toNat + 511 < Config.addressLimit) (hl : offset.toNat + bytes.length ≤ 512) :
    s.askMirror (s.mirrorRequest kind offset bytes) = s.ask (s.mirrorRequest kind offset bytes) := by
  refine if_neg fun hr => ?_
  have hlast := (MemRequest.refused_iff _).1 hr
  simp only [State.mirrorRequest, writeRequest, BitVec.toNat_add, Config.addressLimit] at hb hlast
  omega

/-- A mirror write that is due begins with its leading count asked for (R162, R163). -/
theorem State.beginMirror_of_due {s : State} (hm : s.mirrorSound) (hd : s.notices.writeDue = true) :
    s.beginMirror = ({ s with notices := s.notices.begun s.now } : State).ask s.leadingRequest := by
  obtain ⟨hon, -⟩ := s.notices.writeDue_iff.1 hd
  rw [State.beginMirror, if_pos hd]
  exact State.askMirror_within (s := { s with notices := s.notices.begun s.now }) .mirrorLeading (hm hon)
    (by rw [NoticeUnit.generationBytes_length]; decide)

/-- No mirror write begins where none is due. -/
theorem State.beginMirror_of_not_due {s : State} (hd : s.notices.writeDue = false) : s.beginMirror = s :=
  if_neg (Bool.eq_false_iff.1 hd)

/-! ### The end of an event (R100, R161, R162) -/

/-- The status is made of what lasts. -/
theorem State.status_congr {s t : State} (h : t.lasting = s.lasting) : t.status = s.status :=
  (congrArg State.status h : t.lasting.status = s.lasting.status)

/-- The mirror does not show what a link is building. -/
theorem State.linkStatus_chooseAll (s : State) (m : LinkId) : s.chooseAll.linkStatus m = s.linkStatus m := by
  have hmember : s.chooseAll.member m = s.member m := rfl
  simp only [State.linkStatus, s.chooseAll_link m, hmember, LinkEngine.choose]
  split <;> rfl

/-- The transmitters' choices change nothing that the mirror shows. -/
theorem State.status_chooseAll (s : State) : s.chooseAll.status = s.status := by
  have hlinks : s.chooseAll.linkStatus = s.linkStatus := funext s.linkStatus_chooseAll
  simp only [State.status, hlinks]
  rfl

/-- The end of an event that has changed nothing the mirror shows marks nothing. -/
theorem State.finish_unmarked {s v : State} (h : v.status = s.status) :
    State.finish s v = v.chooseAll.beginMirror.arbitrate := by
  rw [State.finish, State.markChanges, if_pos (v.status_chooseAll.trans h)]

/-- The end of an event at which no mirror write is due. -/
theorem State.finish_idle {s v : State} (h : v.status = s.status) (hd : v.notices.writeDue = false) :
    (State.finish s v).notices = v.notices ∧ (State.finish s v).port = v.port.arbitrate := by
  rw [State.finish_unmarked h, State.beginMirror_of_not_due (s := v.chooseAll) hd]
  exact ⟨rfl, rfl⟩

/-- A request given to the arbiter is asked for once the arbiter has acted. -/
theorem State.asks_of_arbitrate {t u : State} {r : MemRequest} (h : t.port = (u.ask r).port.arbitrate) : t.asks r := by
  have hwaits : (u.ask r).port.waiting r.kind.cls = some r := by
    rw [State.ask_writes]; cases r.kind.cls <;> rfl
  rw [State.asks, h]
  exact SystemPort.arbitrate_asks _ _ _ hwaits

/-- The end of an event at which a mirror write is due begins it. -/
theorem State.finish_begins {s v : State} (h : v.status = s.status) (hm : v.mirrorSound)
    (hd : v.notices.writeDue = true) :
    (State.finish s v).notices = v.notices.begun v.now ∧ (State.finish s v).asks v.leadingRequest := by
  rw [State.finish_unmarked h, State.beginMirror_of_due (s := v.chooseAll) hm hd]
  exact ⟨rfl, State.asks_of_arbitrate rfl⟩

/-- Where no mirror is kept, the end of an event may mark the mirror dirty and changes nothing else of the notice
unit. -/
theorem State.finish_notices_of_not_on (s : State) {v : State} (h : v.notices.mirrorState ≠ .on) :
    ∃ dirty, (State.finish s v).notices = { v.notices with dirty := dirty } := by
  have hd : (State.markChanges s v.chooseAll).notices.writeDue = false :=
    NoticeUnit.writeDue_eq_false fun hdue => h (by simpa using hdue.1)
  rw [State.finish, State.beginMirror_of_not_due hd, State.markChanges]
  split
  · exact ⟨v.notices.dirty, rfl⟩
  · exact ⟨true, rfl⟩

/-- The arbiter leaves the latch. -/
theorem SystemPort.arbitrate_latch (p : SystemPort) : p.arbitrate.latch = p.latch := by
  simp only [SystemPort.arbitrate]
  (repeat' split) <;> rfl

/-- The end of an event leaves the latch. -/
theorem State.finish_latch (s : State) {v : State} (h : v.mirrorSound) :
    (State.finish s v).port.latch = v.port.latch := by
  have hmarked : (State.markChanges s v.chooseAll).port = v.port := by simp
  have hsound : (State.markChanges s v.chooseAll).mirrorSound := State.mirrorSound_of_eq h (by simp) (by simp)
  have hlatch : (State.markChanges s v.chooseAll).beginMirror.port.latch = v.port.latch := by
    cases hd : (State.markChanges s v.chooseAll).notices.writeDue with
    | true => rw [State.beginMirror_of_due hsound hd, ← hmarked]; rfl
    | false => rw [State.beginMirror_of_not_due hd, hmarked]
  exact (SystemPort.arbitrate_latch _).trans hlatch

/-- The mirror's settings last. -/
theorem State.mirrorSound_congr {s t : State} (h : t.lasting = s.lasting) (hm : s.mirrorSound) : t.mirrorSound :=
  State.mirrorSound_of_eq hm (congrArg (fun x => x.notices.mirrorBase) h :)
    (congrArg (fun x => x.notices.mirrorState) h :)

/-- What a command ends at whose operation, ending at `v`, changes nothing that the mirror shows: either the mirror
write that is due begins, or none is due and the arbiter alone acts. -/
theorem exec_ends {c : Instr} {s u : State} (v : State) (he : exec c s = .next (State.finish s v)) (hm : u.mirrorSound)
    (hv : v.lasting = u.lasting) (hu : u.status = s.status) :
    ∃ t, exec c s = .next t ∧ t.lasting = u.chooseAll.lasting ∧ t.port.latch = v.port.latch ∧
      (v.notices.writeDue = true → t.notices = v.notices.begun v.now ∧ t.asks v.leadingRequest) ∧
      (v.notices.writeDue = false → t.notices = v.notices ∧ t.port = v.port.arbitrate) := by
  have hsound : v.mirrorSound := State.mirrorSound_congr hv hm
  have hstatus : v.status = s.status := (State.status_congr hv).trans hu
  exact ⟨_, he, (State.finish_lasting s v hsound).trans (State.chooseAll_lasting hv), State.finish_latch s hsound,
    State.finish_begins hstatus hsound, State.finish_idle hstatus⟩

/-! ### NOTICE, MASK and a raise -/

/-- A register write whose operation keeps the mirror's settings answers a state that lasts as the operation's end, with
its latch. -/
theorem completes_with_latch {c : Instr} {s u : State} {latch : Bool} (v : State)
    (he : exec c s = .next (State.finish s v)) (hm : v.mirrorSound) (hu : v.lasting = u.lasting)
    (hl : v.port.latch = latch) :
    ∃ t, exec c s = .next t ∧ t.lasting = u.chooseAll.lasting ∧ t.port.latch = latch :=
  ⟨_, he, (State.finish_lasting s v hm).trans (State.chooseAll_lasting hu), (State.finish_latch s hm).trans hl⟩

/-- Of a register word, the twelve notices' bits are the low ones (11.5). -/
theorem noticeBits_eq (w : Word32) : noticeBits w = w.setWidth 12 := by
  ext i; simp [noticeBits]

/-- Settles O10: the two writes by what they change and where they leave the latch, and the raise. -/
theorem noticeAndMaskWrites : Obligations.NoticeAndMaskWrites := by
  unfold Obligations.NoticeAndMaskWrites
  refine ⟨fun w s hs => ?_, fun s n => ?_, by decide⟩
  · intro bits off raw
    have hoff : decide off = (s.notices.mirrorState != .on) := decide_not
    have hbits : noticeBits w = bits := noticeBits_eq w
    refine ⟨completes_with_latch (s.writeNotice (noticeBits w)) rfl (State.mirrorSound_of_eq hs (by simp) (by simp))
        ?_ ?_,
      completes_with_latch (s.writeMask (noticeBits w)) rfl (State.mirrorSound_of_eq hs (by simp) (by simp)) ?_ ?_⟩
    · rw [s.writeNotice_lasting, hbits]
    · rw [s.writeNotice_latch, hbits, hoff]
    · rw [s.writeMask_lasting, hbits]
    · rw [s.writeMask_latch, hbits, hoff]
  · intro u before raw now
    exact ⟨s.raise_lasting n, congrArg NoticeUnit.dirty (s.raise_writes n).1, s.raise_latch n⟩

end Sys2Proof.Machine
end

section
/-! PROOFS. The stages of a mirror write and its faults, and the completions of requests that have been given up. -/

open Sys2Proof Sys2Proof.Machine

namespace Sys2Proof.Machine

/-! ### The request that completes -/

/-- The request in flight completes as one of its kind. -/
theorem State.completing_of_current {s : State} {q : MemRequest} {kind : RequestKind}
    (hq : s.port.current = some q) (hk : q.kind = kind) : s.completing kind = some q := by
  simp only [State.completing, hq, if_pos hk]

/-- The request in flight completes as one of its class. -/
theorem State.completingClass_of_current {s : State} {q : MemRequest} {c : RequestClass}
    (hq : s.port.current = some q) (hc : q.kind.cls = c) : s.completingClass c = some q := by
  simp only [State.completingClass, hq, if_pos hc]

/-- The three kinds of a mirror write are the mirror class. -/
theorem RequestKind.cls_eq_mirror {k : RequestKind} (h : k = .mirrorLeading ∨ k = .mirrorBody ∨ k = .mirrorTrailing) :
    k.cls = .mirror := by
  obtain rfl | rfl | rfl := h <;> rfl

/-- The three kinds of a report's writes are the report class. -/
theorem RequestKind.cls_eq_report {k : RequestKind} (h : k = .resultArea ∨ k = .outcome ∨ k = .done) :
    k.cls = .report := by
  obtain rfl | rfl | rfl := h <;> rfl

/-! ### The stages of a mirror write (R163) -/

/-- A mirror write's stage that has not been given up goes on with the resource free. -/
theorem State.mirrorStage_of_current {s : State} {q : MemRequest} {kind : RequestKind}
    (hq : s.port.current = some q) (ha : q.abandoned = false) (hk : q.kind = kind) (act : State → State) :
    s.mirrorStage kind act = act s.freeResource := by
  simp only [State.mirrorStage, State.completing_of_current hq hk, ha, Bool.false_eq_true, if_false]

/-- The leading count written: the body is asked for, as it is then. -/
theorem State.leadingWritten_of_current {s : State} {q : MemRequest} (hm : s.mirrorSound)
    (hon : s.notices.mirrorState = .on) (hq : s.port.current = some q) (ha : q.abandoned = false)
    (hk : q.kind = .mirrorLeading) :
    s.leadingWritten = s.freeResource.ask (s.mirrorRequest .mirrorBody 4 s.status.bytes) := by
  rw [State.leadingWritten, State.mirrorStage_of_current hq ha hk]
  exact State.askMirror_within (s := s.freeResource) .mirrorBody (hm hon) (by rw [State.body_length]; decide)

/-- The body written: the trailing count is asked for. -/
theorem State.bodyWritten_of_current {s : State} {q : MemRequest} (hm : s.mirrorSound)
    (hon : s.notices.mirrorState = .on) (hq : s.port.current = some q) (ha : q.abandoned = false)
    (hk : q.kind = .mirrorBody) :
    s.bodyWritten = s.freeResource.ask (s.mirrorRequest .mirrorTrailing 508 (toLE 4 s.notices.generation.toNat)) := by
  rw [State.bodyWritten, State.mirrorStage_of_current hq ha hk]
  exact State.askMirror_within (s := s.freeResource) .mirrorTrailing (hm hon)
    (by rw [NoticeUnit.generationBytes_length]; decide)

/-- The trailing count written: the write is over and the interrupt is reconsidered. -/
theorem State.trailingWritten_of_current {s : State} {q : MemRequest} (hq : s.port.current = some q)
    (ha : q.abandoned = false) (hk : q.kind = .mirrorTrailing) :
    s.trailingWritten =
      (s.freeResource.modNotices fun u => { u with writeInFlight := false }).reconsider :=
  State.mirrorStage_of_current hq ha hk _

/-- The interval over: its timer is stopped, and the time is its expiry or later (R162). -/
theorem State.intervalExpired_of_running {s : State} {e : Nat} (h : s.notices.intervalTimer = some e) :
    s.intervalExpired =
      { s with now := max s.now e, notices := { s.notices with intervalTimer := none } } := by
  simp only [State.intervalExpired, h]
  rfl

/-! ### A mirror write in error (R164) -/

/-- A mirror write in error that has not been given up. -/
theorem State.mirrorError_of_current {s : State} {q : MemRequest} (hq : s.port.current = some q)
    (ha : q.abandoned = false) (hc : q.kind.cls = .mirror) : s.mirrorError = s.freeResource.mirrorFault := by
  simp only [State.mirrorError, State.completingClass_of_current hq hc, ha, Bool.false_eq_true, if_false]

/-- The notice unit after a mirror fault. -/
theorem State.mirrorFault_notices (s : State) :
    s.mirrorFault.notices =
      NoticeUnit.raise { s.notices with writeInFlight := false, mirrorState := .broken, intervalTimer := none }
        .systemFault := by
  simp [State.mirrorFault]

/-- Of what lasts, a mirror fault changes the mirror's state and the raw notices. -/
theorem State.mirrorFault_lasting (s : State) :
    s.mirrorFault.lasting =
      ({ s with notices :=
          { s.notices with
            mirrorState := .broken, raw := s.notices.raw ||| Notice.systemFault.flag } } : State).lasting := by
  rw [State.mirrorFault, State.reconsider_lasting, State.raise_lasting]
  rfl

/-- A mirror fault sets the latch where a notice is then active: the mirror is no longer kept. -/
theorem State.mirrorFault_latch (s : State) :
    s.mirrorFault.port.latch =
      (s.port.latch || (s.notices.raw ||| Notice.systemFault.flag) &&& ~~~s.notices.mask != 0) := by
  have hactive : s.mirrorFault.notices.active = (s.notices.raw ||| Notice.systemFault.flag) &&& ~~~s.notices.mask := by
    rw [s.mirrorFault_notices]; rfl
  rw [← hactive, s.mirrorFault_notices, State.mirrorFault, State.reconsider_latch, State.raise_latch,
    (State.raise_writes _ _).1]
  simp only [State.modNotices_writes, State.modNotices_leaves]
  generalize (NoticeUnit.active _ != 0) = active
  cases s.port.latch <;> cases active <;> simp

/-! ### The events of a mirror write -/

/-- A command whose operation changes nothing that lasts and ends with a request asked for, where no mirror write is
due. -/
theorem exec_ends_asking {c : Instr} {s u v : State} {r : MemRequest} (he : exec c s = .next (State.finish s v))
    (hv : v = u.ask r) (hm : s.mirrorSound) (hu : u.lasting = s.lasting) (hd : u.notices.writeDue = false) :
    ∃ t, exec c s = .next t ∧ t.lasting = s.chooseAll.lasting ∧ t.notices = u.notices ∧ t.asks r := by
  subst hv
  obtain ⟨t, hexec, hlasting, -, -, hidle⟩ := exec_ends (u.ask r) he hm ((u.ask_lasting r).trans hu) rfl
  obtain ⟨hnotices, hport⟩ := hidle hd
  exact ⟨t, hexec, hlasting, hnotices, State.asks_of_arbitrate hport⟩

/-- No mirror write is due while one is in flight. -/
theorem NoticeUnit.writeDue_of_writeInFlight {u : NoticeUnit} (h : u.writeInFlight = true) : u.writeDue = false :=
  NoticeUnit.writeDue_eq_false fun hdue => by simp [h] at hdue

/-- A command at which a mirror write is over and nothing that lasts changes: the next one begins where the flag is set
and no interval is running (R162, R163, R165). -/
theorem exec_ends_mirrorOver {c : Instr} {s : State} (v : State) (he : exec c s = .next (State.finish s v))
    (hm : s.mirrorSound) (hv : v.lasting = s.lasting) (hn : v.notices = { s.notices with writeInFlight := false }) :
    ∃ t, exec c s = .next t ∧ t.lasting = s.chooseAll.lasting ∧ t.port.latch = v.port.latch ∧
      if s.notices.mirrorState = .on ∧ s.notices.dirty = true ∧ s.notices.intervalTimer = none then
        t.notices = s.notices.begun s.now ∧ t.asks s.leadingRequest
      else t.notices = { s.notices with writeInFlight := false } ∧ t.port = v.port.arbitrate := by
  obtain ⟨t, hexec, hlasting, hlatch, hbegins, hidle⟩ := exec_ends v he hm hv rfl
  have hnow : v.now = s.now := (congrArg State.now hv :)
  have hleading : v.leadingRequest = s.leadingRequest := State.leadingRequest_congr (by rw [hn]) (by rw [hn])
  have hdue : v.notices.writeDue = true ↔
      s.notices.mirrorState = .on ∧ s.notices.dirty = true ∧ s.notices.intervalTimer = none := by
    rw [NoticeUnit.writeDue_iff, hn]
    exact ⟨fun ⟨hon, hd, _, ht⟩ => ⟨hon, hd, ht⟩, fun ⟨hon, hd, ht⟩ => ⟨hon, hd, rfl, ht⟩⟩
  rw [hn, hnow, hleading] at hbegins
  rw [hn] at hidle
  rw [hn] at hdue
  refine ⟨t, hexec, hlasting, hlatch, ?_⟩
  split
  next h => exact hbegins (hdue.2 h)
  next h => exact hidle (Bool.eq_false_iff.2 (mt hdue.1 h))

/-- Settles O51: each event ends either with a request asked for and no mirror write due, or with the write that is due
begun; and the fault. -/
theorem mirrorWrites : Obligations.MirrorWrites := by
  unfold Obligations.MirrorWrites
  refine ⟨fun s q hs hon => ?_, fun s q hq hk ha => ?_⟩
  · intro n request begun
    have hbegun {now : Nat} {t : State} (hn : t.notices = n.begun now) (hr : t.asks s.leadingRequest) :
        begun now t := by
      dsimp only [begun]
      rw [hn]
      exact ⟨rfl, rfl, rfl, rfl, hr⟩
    refine ⟨fun hdirty hflight htimer => ?_, fun hq ha hflight => ⟨fun hk => ?_, fun hk => ?_, fun hk => ?_⟩,
      fun e he => ?_⟩
    · have hbegin := State.beginMirror_of_due hs (n.writeDue_iff.2 ⟨hon, hdirty, hflight, htimer⟩)
      obtain ⟨t, hexec, hlasting, hnotices, hasks⟩ := exec_ends_asking (c := .mirrorWriteBegin)
        rfl hbegin hs rfl (NoticeUnit.writeDue_of_writeInFlight rfl)
      exact ⟨t, hexec, hlasting, hbegun hnotices hasks⟩
    · have hwritten := State.leadingWritten_of_current hs hon hq ha hk
      exact exec_ends_asking (u := s.freeResource) rfl hwritten hs rfl (NoticeUnit.writeDue_of_writeInFlight hflight)
    · have hwritten := State.bodyWritten_of_current hs hon hq ha hk
      exact exec_ends_asking (u := s.freeResource) rfl hwritten hs rfl (NoticeUnit.writeDue_of_writeInFlight hflight)
    · have hwritten := State.trailingWritten_of_current hq ha hk
      have hnotices : s.trailingWritten.notices = { s.notices with writeInFlight := false } := by
        rw [hwritten]; simp
      obtain ⟨t, hexec, hlasting, hlatch, hends⟩ := exec_ends_mirrorOver (c := .mirrorTrailingWrite) s.trailingWritten
        rfl hs (by rw [hwritten, State.reconsider_lasting]; rfl) hnotices
      refine ⟨t, hexec, hlasting, fun hactive => ?_, ?_⟩
      · rw [hlatch, hwritten, State.reconsider_latch]
        exact Bool.or_eq_true_iff.2 (.inr (bne_iff_ne.2 hactive))
      · split
        next h =>
          obtain ⟨hbegins, hasks⟩ := (if_pos ⟨hon, h⟩).mp hends
          exact hbegun hbegins hasks
        next h => exact ((if_neg fun hall => h hall.2).mp hends).1
    · intro u
      have hexpired := State.intervalExpired_of_running he
      have hdue : s.intervalExpired.notices.writeDue = true ↔ n.dirty = true ∧ n.writeInFlight = false := by
        rw [hexpired, NoticeUnit.writeDue_iff]
        exact ⟨fun ⟨_, hd, hf, _⟩ => ⟨hd, hf⟩, fun ⟨hd, hf⟩ => ⟨hon, hd, hf, rfl⟩⟩
      obtain ⟨t, hexec, hlasting, -, hbegins, hidle⟩ := exec_ends (c := .intervalTimerExpiry) (u := u) s.intervalExpired
        rfl hs (by rw [hexpired]; rfl) rfl
      refine ⟨t, hexec, hlasting, ?_⟩
      split
      next h =>
        obtain ⟨hnotices, hasks⟩ := hbegins (hdue.2 h)
        rw [hexpired] at hnotices hasks
        exact hbegun hnotices hasks
      next h =>
        rw [(hidle (Bool.eq_false_iff.2 (mt hdue.1 h))).1, hexpired]
  · have herror := State.mirrorError_of_current hq ha (RequestKind.cls_eq_mirror hk)
    have hbroken : s.freeResource.mirrorFault.notices.mirrorState ≠ .on := by
      rw [State.mirrorFault_notices]; exact fun h => nomatch h
    have hsound : s.freeResource.mirrorFault.mirrorSound := fun hon => absurd hon hbroken
    obtain ⟨dirty, hnotices⟩ := State.finish_notices_of_not_on s hbroken
    rw [State.mirrorFault_notices] at hnotices
    refine ⟨State.finish s s.freeResource.mirrorFault, by rw [← herror]; rfl,
      (State.finish_lasting s _ hsound).trans (State.chooseAll_lasting s.freeResource.mirrorFault_lasting),
      by rw [hnotices]; rfl, by rw [hnotices]; rfl, by rw [hnotices]; rfl,
      (State.finish_latch s hsound).trans s.freeResource.mirrorFault_latch⟩

/-! ### Completions of requests that have been given up (R58, R89, R98, R160, R165, R171, R182) -/

section GivenUp
variable {s : State} {q : MemRequest}

/-- A walk request given up: the resource is free, and that is all (R89, R98, R171). -/
theorem State.walkCompletion_givenUp {kind : RequestKind} (hq : s.port.current = some q) (ha : q.abandoned = true)
    (hk : q.kind = kind) (act : State → State) : s.walkCompletion kind act = s.freeResource := by
  simp only [State.walkCompletion, State.completing_of_current hq hk, if_pos ha]

/-- A piece read given up (R58). -/
theorem State.pieceDone_givenUp (hq : s.port.current = some q) (ha : q.abandoned = true) (hk : q.kind = .piece)
    (bytes : Option (List Byte)) : s.pieceDone bytes = s.freeResource := by
  simp only [State.pieceDone, State.completing_of_current hq hk, if_pos ha]

/-- A result-area or outcome write given up (R182). -/
theorem State.stageWritten_givenUp {kind : RequestKind} (hq : s.port.current = some q) (ha : q.abandoned = true)
    (hk : q.kind = kind) (next : ReportStage) : s.stageWritten kind next = s.freeResource := by
  simp only [State.stageWritten, State.completing_of_current hq hk, if_pos ha]

/-- A report write given up that ends in error (R182). -/
theorem State.reportWriteError_givenUp (hq : s.port.current = some q) (ha : q.abandoned = true)
    (hc : q.kind.cls = .report) : s.reportWriteError = s.freeResource := by
  simp only [State.reportWriteError, State.completingClass_of_current hq hc, if_pos ha]

/-- A DONE write given up is counted all the same (R160, R182). -/
theorem State.doneWritten_givenUp (hq : s.port.current = some q) (ha : q.abandoned = true) (hk : q.kind = .done) :
    s.doneWritten = s.freeResource.tallyDone := by
  simp only [State.doneWritten, State.completing_of_current hq hk, if_pos ha]

/-- A mirror write given up is over at the completion of its stage (R165). -/
theorem State.mirrorStage_givenUp {kind : RequestKind} (hq : s.port.current = some q) (ha : q.abandoned = true)
    (hk : q.kind = kind) (act : State → State) :
    s.mirrorStage kind act = s.freeResource.modNotices fun u => { u with writeInFlight := false } := by
  simp only [State.mirrorStage, State.completing_of_current hq hk, if_pos ha]

/-- A mirror write given up is over at an error too, which is no fault (R165). -/
theorem State.mirrorError_givenUp (hq : s.port.current = some q) (ha : q.abandoned = true)
    (hc : q.kind.cls = .mirror) :
    s.mirrorError = s.freeResource.modNotices fun u => { u with writeInFlight := false } := by
  simp only [State.mirrorError, State.completingClass_of_current hq hc, if_pos ha]

end GivenUp

/-- A completion that only frees the resource. -/
theorem exec_ends_free {c : Instr} {s v : State} (he : exec c s = .next (State.finish s v)) (hv : v = s.freeResource)
    (hm : s.mirrorSound) :
    ∃ t, exec c s = .next t ∧ t.lasting = s.chooseAll.lasting ∧
      (s.notices.mirrorState ≠ .on →
        t.notices = s.notices ∧ t.port = ({ s.port with current := none } : SystemPort).arbitrate) := by
  subst hv
  obtain ⟨t, hexec, hlasting, -, -, hidle⟩ := exec_ends (u := s) s.freeResource he hm rfl rfl
  exact ⟨t, hexec, hlasting, fun hoff => hidle (NoticeUnit.writeDue_eq_false fun hdue => hoff hdue.1)⟩

/-- Settles O50: each completion by what it does with a request given up, and the DONE write's tally. -/
theorem givenUpCompletions : Obligations.GivenUpCompletions := by
  unfold Obligations.GivenUpCompletions
  intro s q hs hq ha n ends mirrorEnds
  have hmirror {c : Instr} {v : State} (he : exec c s = .next (State.finish s v))
      (hv : v = s.freeResource.modNotices fun u => { u with writeInFlight := false }) : mirrorEnds c := by
    subst hv
    obtain ⟨t, hexec, hlasting, -, hends⟩ := exec_ends_mirrorOver _ he hs rfl rfl
    refine ⟨t, hexec, hlasting, ?_⟩
    rw [s.leadingRequest_eq] at hends
    split
    next h =>
      obtain ⟨hnotices, hasks⟩ := (if_pos h).mp hends
      rw [hnotices]
      exact ⟨rfl, rfl, rfl, hasks⟩
    next h => exact (if_neg h).mp hends
  refine ⟨fun hk v => exec_ends_free rfl (State.walkCompletion_givenUp hq ha hk _) hs,
    fun hk bytes => exec_ends_free rfl (State.walkCompletion_givenUp hq ha hk _) hs,
    fun hk bytes => exec_ends_free rfl (State.walkCompletion_givenUp hq ha hk _) hs,
    fun hk ok => exec_ends_free rfl (State.walkCompletion_givenUp hq ha hk _) hs,
    fun hk bytes => exec_ends_free rfl (State.pieceDone_givenUp hq ha hk bytes) hs,
    fun hk => exec_ends_free rfl (State.stageWritten_givenUp hq ha hk _) hs,
    fun hk => exec_ends_free rfl (State.stageWritten_givenUp hq ha hk _) hs,
    fun hk => exec_ends_free rfl (State.reportWriteError_givenUp hq ha (RequestKind.cls_eq_report hk)) hs,
    fun hk => ?_,
    fun hk => hmirror rfl (State.mirrorStage_givenUp hq ha hk _),
    fun hk => hmirror rfl (State.mirrorStage_givenUp hq ha hk _),
    fun hk => hmirror rfl (State.mirrorStage_givenUp hq ha hk _),
    fun hk => hmirror rfl (State.mirrorError_givenUp hq ha (RequestKind.cls_eq_mirror hk))⟩
  refine completes_of s.doneWritten rfl (State.mirrorSound_of_eq hs (by simp) (by simp)) (State.chooseAll_lasting ?_)
  rw [State.doneWritten_givenUp hq ha hk, State.tallyDone, State.raise_lasting, State.raise_lasting]
  rfl

end Sys2Proof.Machine
end

section
/-! PROOFS. QUIESCE: what the stop of the walk does, the quiet condition, and what the end of an event leaves of the
walk's requests. -/

open Sys2Proof Sys2Proof.Machine

namespace Sys2Proof.Machine

/-! ### The quiet condition (R172) -/

/-- No slot is in use when every slot is FREE. -/
theorem State.slotsInUse_eq_zero_iff (s : State) : s.slotsInUse = 0 ↔ ∀ i, s.slot i = none := by
  simp [State.slotsInUse, List.countP_eq_zero, mem_allSlots]

/-- The chain reader's part of the quiet condition (R96). -/
theorem ChainReader.quiet_iff (c : ChainReader) :
    c.quiet = true ↔ c.reports = [] ∧ c.walk ≠ .takenWrite ∧ c.walk ≠ .dispatching ∧ c.heldBarrier = none := by
  simp [ChainReader.quiet, ChainReader.claiming, and_assoc]

/-- No readmit and no NOTE is in flight. -/
theorem State.noExchange_iff (s : State) :
    s.noExchange = true ↔ ∀ m, (s.member m).readmit = none ∧ (s.link m).note = none := by
  simp [State.noExchange, mem_allLinks]

/-- The four conditions of R172. -/
theorem State.partQuiet_iff (s : State) :
    s.partQuiet = true ↔
      (∀ i, s.slot i = none) ∧ s.chain.reports = [] ∧ s.chain.walk ≠ .takenWrite ∧ s.chain.walk ≠ .dispatching ∧
        s.chain.heldBarrier = none ∧ ∀ m, (s.member m).readmit = none ∧ (s.link m).note = none := by
  simp only [State.partQuiet, Bool.and_eq_true, beq_iff_eq, s.slotsInUse_eq_zero_iff, s.chain.quiet_iff,
    s.noExchange_iff, and_assoc]

/-- A quiet part in QUIESCING enters QUIESCED. -/
theorem State.testQuiet_of_quiet {s : State} (hrun : s.port.run = .quiescing) (hquiet : s.partQuiet = true) :
    s.testQuiet = s.enterRun .quiesced :=
  if_pos ⟨hrun, hquiet⟩

/-- In any other case the test changes nothing. -/
theorem State.testQuiet_of_not_quiet {s : State} (h : ¬ (s.port.run = .quiescing ∧ s.partQuiet = true)) :
    s.testQuiet = s :=
  if_neg h

/-- The test leaves the requests at the port. -/
theorem State.testQuiet_requests (s : State) :
    s.testQuiet.port.current = s.port.current ∧ s.testQuiet.port.waitWalk = s.port.waitWalk := by
  simp only [State.testQuiet]
  split
  · simp [State.enterRun]
  · exact ⟨rfl, rfl⟩

/-- Of what lasts, entering a run state changes it and the raw notices (R168). -/
theorem State.enterRun_lasting (s : State) (r : RunState) :
    (s.enterRun r).lasting =
      { s.lasting with
        port := { s.lasting.port with run := r }
        notices := (s.lasting.notices.raise .runChange).lasting } :=
  State.raise_lasting _ _

/-- States that last alike are quiet alike, so the test leaves them alike. -/
theorem State.testQuiet_lasting {s t : State} (h : s.lasting = t.lasting) :
    s.testQuiet.lasting = t.testQuiet.lasting := by
  have hrun : s.port.run = t.port.run := (congrArg (fun x => x.port.run) h :)
  have hquiet : s.partQuiet = t.partQuiet := (congrArg State.partQuiet h :)
  by_cases hq : s.port.run = .quiescing ∧ s.partQuiet = true
  · obtain ⟨hs, hp⟩ := hq
    rw [State.testQuiet_of_quiet hs hp, State.testQuiet_of_quiet (hrun ▸ hs) (hquiet ▸ hp), State.enterRun_lasting,
      State.enterRun_lasting, h]
  · rw [State.testQuiet_of_not_quiet hq, State.testQuiet_of_not_quiet (hrun ▸ hquiet ▸ hq), h]

/-! ### The stop of the walk (R171) -/

/-- The steps during which a fetch holds a report place. -/
theorem WalkStep.holdsPlace_iff (w : WalkStep) :
    w.holdsPlace = true ↔ w = .nextField ∨ w = .record ∨ w = .reRead ∨ w = .takenWrite := by
  cases w <;> decide

/-- Dropping a hold leaves a held BARRIER's reason alone. -/
theorem HeldReason.dropHold_eq (r : HeldReason) : r.dropHold = if r = .barrier then .barrier else .none := by
  cases r <;> rfl

/-- A TAKEN write has been issued and not given up. -/
theorem State.takenIssued_iff (s : State) :
    s.takenIssued = true ↔ ∃ r, s.port.current = some r ∧ r.kind = .takenWrite ∧ r.abandoned = false := by
  simp only [State.takenIssued]
  cases s.port.current <;> simp

/-- The cases in which a QUIESCE does not touch the walk. -/
theorem State.stopLeaves_iff (s : State) :
    s.stopLeaves = true ↔
      (∃ r, s.port.current = some r ∧ r.kind = .takenWrite ∧ r.abandoned = false) ∨ s.chain.walk = .dispatching ∨
        s.chain.heldBarrier.isSome ∨ s.chain.state = .idle ∨ s.chain.state = .faulted ∨ s.chain.state = .stopped := by
  simp only [State.stopLeaves, Bool.or_eq_true, beq_iff_eq, s.takenIssued_iff, or_assoc]

/-- The chain reader's part of the stop, for a walk that is not dispatching an order. -/
theorem ChainReader.stopWalk_eq {c : ChainReader} (h : c.walk ≠ .dispatching) :
    c.stopWalk =
      { c with
        linkWaitTimer := none, heldReason := if c.heldReason = .barrier then .barrier else .none
        reserved :=
          if c.walk = .nextField ∨ c.walk = .record ∨ c.walk = .reRead ∨ c.walk = .takenWrite then c.reserved - 1
          else c.reserved
        fetchAddr := none, fetched := none, walk := .idle } := by
  simp only [ChainReader.stopWalk, c.heldReason.dropHold_eq, c.walk.holdsPlace_iff, if_neg h]

/-- Of the walk's requests, the one that waits is withdrawn. -/
theorem SystemPort.dropClass_walk_waitWalk (p : SystemPort) : (p.dropClass .walk).waitWalk = none := by
  simp only [SystemPort.dropClass, SystemPort.abandonCurrent]
  (repeat' split) <;> rfl

/-- Of the walk's requests, the one in flight is given up; another class's is left. -/
theorem SystemPort.dropClass_walk_current {p : SystemPort} {r : MemRequest} (h : p.current = some r) :
    (p.dropClass .walk).current = some (if r.kind.cls = .walk then { r with abandoned := true } else r) := by
  have hkept : (p.setWaiting .walk none).current = some r := h
  simp only [SystemPort.dropClass, SystemPort.abandonCurrent, hkept]
  split
  · rfl
  · exact hkept

/-- A walk that a QUIESCE stops: of what lasts, the chain reader alone changes. -/
theorem State.stopForQuiesce_lasting {s : State} (h : s.stopLeaves = false) :
    s.stopForQuiesce.lasting =
      ({ s with chain := { s.chain.stopWalk with state := .idle, linkWaitCount := 0 } } : State).lasting := by
  have hstop : s.stopForQuiesce = s.stopWalk.modChain fun c => { c with state := .idle, linkWaitCount := 0 } :=
    if_neg (Bool.eq_false_iff.1 h)
  rw [hstop]
  exact congrArg (fun u : State => u.modChain fun c => { c with state := .idle, linkWaitCount := 0 })
    s.stopWalk_lasting

/-- A walk that a QUIESCE stops has its requests withdrawn and given up. -/
theorem State.stopForQuiesce_port {s : State} (h : s.stopLeaves = false) :
    s.stopForQuiesce.port = s.port.dropClass .walk :=
  congrArg State.port (if_neg (Bool.eq_false_iff.1 h) :)

/-! ### The walk's requests at the end of an event (R100) -/

/-- The mirror write that begins leaves the request in flight. -/
theorem State.beginMirror_current {s : State} (hm : s.mirrorSound) :
    s.beginMirror.port.current = s.port.current := by
  cases hd : s.notices.writeDue with
  | true => rw [State.beginMirror_of_due hm hd]; rfl
  | false => rw [State.beginMirror_of_not_due hd]

/-- With a request in flight the arbiter issues nothing. -/
theorem SystemPort.arbitrate_of_busy {p : SystemPort} {r : MemRequest} (h : p.current = some r) : p.arbitrate = p := by
  simp only [SystemPort.arbitrate, h]

/-- The arbiter leaves a walk without a waiting request without one. -/
theorem SystemPort.arbitrate_waitWalk {p : SystemPort} (h : p.waitWalk = none) : p.arbitrate.waitWalk = none := by
  simp only [SystemPort.arbitrate, h]
  (repeat' split) <;> simp only [h]

/-- What the arbiter finds at the end of an event: the request in flight and the walk's waiting request as the event
left them. -/
theorem State.beginMirror_markChanges_requests (s : State) {v : State} (hm : v.mirrorSound) :
    (State.markChanges s v.chooseAll).beginMirror.port.current = v.port.current ∧
      (State.markChanges s v.chooseAll).beginMirror.port.waitWalk = v.port.waitWalk := by
  have hmarked : (State.markChanges s v.chooseAll).port = v.port := by simp
  have hsound : (State.markChanges s v.chooseAll).mirrorSound := State.mirrorSound_of_eq hm (by simp) (by simp)
  have hwaits := (State.markChanges s v.chooseAll).beginMirror_waiting .walk (by decide)
  rw [State.beginMirror_current hsound, hmarked]
  exact ⟨rfl, hwaits.trans (congrArg SystemPort.waitWalk hmarked)⟩

/-- The end of an event with a request in flight leaves it and the walk's waiting request. -/
theorem State.finish_of_busy (s : State) {v : State} {r : MemRequest} (hm : v.mirrorSound)
    (h : v.port.current = some r) :
    (State.finish s v).port.current = some r ∧ (State.finish s v).port.waitWalk = v.port.waitWalk := by
  obtain ⟨hcurrent, hwaits⟩ := State.beginMirror_markChanges_requests s hm
  have hport : (State.finish s v).port = (State.markChanges s v.chooseAll).beginMirror.port :=
    SystemPort.arbitrate_of_busy (hcurrent.trans h)
  rw [hport]
  exact ⟨hcurrent.trans h, hwaits⟩

/-- The end of an event asks for nothing on the walk's behalf. -/
theorem State.finish_waitWalk_none (s : State) {v : State} (hm : v.mirrorSound) (h : v.port.waitWalk = none) :
    (State.finish s v).port.waitWalk = none :=
  SystemPort.arbitrate_waitWalk ((State.beginMirror_markChanges_requests s hm).2.trans h)

/-! ### QUIESCE (R170 to R172) -/

/-- QUIESCE in RUNNING: the run state is QUIESCING, the walk stops as it may, and the quiet condition is tested. -/
theorem State.quiesceRun_of_running {s : State} (h : s.port.run = .running) :
    s.quiesceRun = (s.modPort fun p => { p with run := .quiescing }).stopForQuiesce.testQuiet := by
  simp only [State.quiesceRun, h]

/-- A QUIESCE in RUNNING answers a state that lasts as its operation's end; it leaves the walk's requests as the stop of
the walk does. -/
theorem exec_quiesce_of_running {s u : State} (hs : s.mirrorSound) (hrun : s.port.run = .running) :
    let v := (s.modPort fun p => { p with run := .quiescing }).stopForQuiesce
    v.lasting = u.lasting →
      ∃ t, exec .quiesce s = .next t ∧ t.lasting = u.testQuiet.chooseAll.lasting ∧
        (v.port.waitWalk = none → t.port.waitWalk = none) ∧
        ∀ r, v.port.current = some r → t.port.current = some r ∧ t.port.waitWalk = v.port.waitWalk := by
  intro v hu
  have hends : s.quiesceRun = v.testQuiet := State.quiesceRun_of_running hrun
  have hsound : v.testQuiet.mirrorSound := State.mirrorSound_of_eq hs (by simp [v]) (by simp [v])
  obtain ⟨hcurrent, hwaits⟩ := v.testQuiet_requests
  refine ⟨State.finish s v.testQuiet, by rw [← hends]; rfl,
    (State.finish_lasting s _ hsound).trans (State.chooseAll_lasting (State.testQuiet_lasting hu)),
    fun h => State.finish_waitWalk_none s hsound (hwaits.trans h), fun r h => ?_⟩
  rw [← hwaits]
  exact State.finish_of_busy s hsound (hcurrent.trans h)

/-- Settles O7: the stop of the walk by whether a QUIESCE touches it, the two reports, and the test by its
condition. -/
theorem quiesceToQuiesced : Obligations.QuiesceToQuiesced := by
  unfold Obligations.QuiesceToQuiesced
  refine ⟨fun s hs hrun => ?_, fun s hs => ⟨?_, ?_⟩, fun u => ?_⟩
  · intro c q place stopped leaves
    have hleaves : q.stopLeaves = true ↔ leaves := q.stopLeaves_iff
    by_cases h : leaves
    · have hstop : q.stopForQuiesce = q := if_pos (hleaves.2 h)
      obtain ⟨t, hexec, hlasting, -, hbusy⟩ := exec_quiesce_of_running hs hrun (congrArg State.lasting hstop)
      refine ⟨t, hexec, fun _ => ⟨hlasting, fun r hr => ?_⟩, fun hnot => absurd h hnot⟩
      have hport : q.stopForQuiesce.port = q.port := congrArg State.port hstop
      obtain ⟨hcurrent, hwaits⟩ := hbusy r ((congrArg SystemPort.current hport).trans hr)
      exact ⟨hcurrent, hwaits.trans (congrArg SystemPort.waitWalk hport :)⟩
    · have hstops : q.stopLeaves = false := Bool.eq_false_iff.2 (mt hleaves.1 h)
      have hport : q.stopForQuiesce.port = q.port.dropClass .walk := State.stopForQuiesce_port hstops
      have hwalk : c.walk ≠ .dispatching := fun hd => h (.inr (.inl hd))
      have hchain : { c.stopWalk with state := .idle, linkWaitCount := 0 } = stopped := by
        rw [ChainReader.stopWalk_eq hwalk]
      obtain ⟨t, hexec, hlasting, hnone, hbusy⟩ := exec_quiesce_of_running hs hrun
        ((State.stopForQuiesce_lasting hstops).trans
          (congrArg (fun c : ChainReader => ({ q with chain := c } : State).lasting) hchain))
      refine ⟨t, hexec, fun hl => absurd hl h, fun _ => ⟨hlasting, hnone ?_, fun r hr => (hbusy _ ?_).1⟩⟩
      · exact (congrArg SystemPort.waitWalk hport).trans (SystemPort.dropClass_walk_waitWalk _)
      · exact (congrArg SystemPort.current hport).trans (SystemPort.dropClass_walk_current (p := q.port) hr)
  · exact completes_at hs rfl (by simp) (by simp)
  · exact completes_at hs rfl (by simp) (by simp)
  · intro quiet
    have hquiet : u.partQuiet = true ↔ quiet := u.partQuiet_iff
    refine ⟨fun hrun hq => State.testQuiet_of_quiet hrun (hquiet.2 hq), fun h => State.testQuiet_of_not_quiet ?_⟩
    exact fun ⟨hrun, hq⟩ => h.elim (· hrun) (· (hquiet.1 hq))

end Sys2Proof.Machine
end

section
/-! PROOFS. The queue of commands: a step with commands waiting. -/

open Sys2Proof Sys2Proof.Machine

namespace Sys2Proof.Machine

/-- Settles O1: a queue with a front command selects the first branch of `step`. -/
theorem stepRunsTheFrontCommand : Obligations.StepRunsTheFrontCommand := by
  unfold Obligations.StepRunsTheFrontCommand
  intro c rest s hqueue
  simp only [step, hqueue]

end Sys2Proof.Machine
end
